-- ==== Sys2Proof/Word.lean ====
section
/-! DEFINITION. The word types: one byte of a frame or of retention memory, and a time of the part's timebase. -/
namespace Sys2Proof

/-- A byte of a port frame or of retention memory (R175, R192). -/
abbrev Byte := BitVec 8

/-- A time or a duration of the part's own timebase, in whole microseconds (00_scope, "Time"). -/
abbrev Micros := Nat

end Sys2Proof
end

