-- ==== Sys2Proof/Syntax.lean ====
section
/-! DEFINITION. The commands: one constructor for each row of spec/opcode_table.json, with the operands its rule gives it. -/
namespace Sys2Proof

/-- The six axes, numbered from the base outward (00_scope, "Axes"). -/
inductive Axis where
  | a1 | a2 | a3 | a4 | a5 | a6
deriving DecidableEq, Repr

/-- The three ports (R174). -/
inductive Port where
  | motion | safety | cell
deriving DecidableEq, Repr

/-- The commands of the block. A request carries the port it came on, its tag and its payload bytes (R176, R193);
the frame around them is taken off by `decodePeriod`. -/
inductive Instr where
  /-- Supply returns (R13, R156). -/
  | powerOnReset
  /-- Supply is lost; `byteCompletes` says whether supply lasts until the retention byte in progress is written (R144). -/
  | powerLoss (byteCompletes : Bool)
  /-- The external reset input is asserted and its reset takes effect (R144, R156). -/
  | externalReset
  /-- The external reset input is released (R156). -/
  | externalResetRelease
  /-- The read of the calibration region completes (R66). -/
  | calibrationStartUpLoad
  /-- The read of the recipe region completes (R100). -/
  | recipeStartUpLoad
  /-- The reads of the snapshot slots complete (R157). -/
  | startupComplete
  /-- The power-fail warning input is asserted (R145). -/
  | pfwAsserted
  /-- The power-fail warning input is deasserted (R151). -/
  | pfwDeasserted
  /-- A poll of the axis's motor sensor that began at time `began` ends; `frame` holds the bits received by the end of
  the poll period, first received first (R28, R29). -/
  | readEvent (a : Axis) (began : Micros) (frame : List Bool)
  /-- A sample of the home-switch input (R39). -/
  | homeSwitchSample (a : Axis) (asserted : Bool)
  /-- A sample of the brake-sense input (R40). -/
  | brakeSample (a : Axis) (asserted : Bool)
  /-- A sample of the coarse channel (R42). -/
  | coarseSample (a : Axis) (code : BitVec 12)
  /-- A sample of the current-monitor channel, two's complement (R129). -/
  | currentSample (a : Axis) (value : BitVec 16)
  /-- The cross-check timer expires (R44). -/
  | crossCheckExpiry
  /-- The classification timer of an axis expires (R131). -/
  | classificationTimerExpiry (a : Axis)
  /-- The load sample timer of an axis expires (R133). -/
  | loadSampleTimerExpiry (a : Axis)
  /-- The ignore time of an axis's contact watch has passed (R135). -/
  | rampIgnoreExpiry (a : Axis)
  /-- The permit timer of an axis expires (R83). -/
  | permitTimerExpiry (a : Axis)
  /-- The settle timer of an axis's run expires (R91). -/
  | settleTimerExpiry (a : Axis)
  /-- The step timer of the order in the slot expires (R109). -/
  | stepTimerExpiry
  /-- The accept timer of the order in the slot expires (R122). -/
  | acceptTimerExpiry
  /-- The stop timer of the order in the slot expires (R125). -/
  | stopTimerExpiry
  /-- The park timer expires (R147). -/
  | parkTimerExpiry
  /-- The sensor wait timer expires (R163). -/
  | sensorWaitTimerExpiry
  /-- The byte in progress over the retention link is written (R143). -/
  | retentionByteWritten
  /-- A chip-select period with fewer than 8 clock edges (R176). -/
  | shortPeriod (p : Port) (edges : Nat)
  /-- A period with a length field of 0 (R176). -/
  | fetch (p : Port)
  /-- A period whose frame fails its checks, with the bytes received (R177). -/
  | frameError (p : Port) (received : List Byte)
  /-- A well-formed frame whose kind names no request (R180, R193). -/
  | unknownKind (p : Port) (kind : Byte) (tag : Byte) (payload : List Byte)
  /-- READ_AXES (R185). -/
  | readAxes (p : Port) (tag : Byte) (payload : List Byte)
  /-- READ_AXIS (R185). -/
  | readAxis (p : Port) (tag : Byte) (payload : List Byte)
  /-- READ_RUN (R105). -/
  | readRun (p : Port) (tag : Byte) (payload : List Byte)
  /-- READ_RECOVERY (R168). -/
  | readRecovery (p : Port) (tag : Byte) (payload : List Byte)
  /-- READ_SLOTS (R155). -/
  | readSlots (p : Port) (tag : Byte) (payload : List Byte)
  /-- READ_CAL (R51). -/
  | readCal (p : Port) (tag : Byte) (payload : List Byte)
  /-- READ_STEP (R96). -/
  | readStep (p : Port) (tag : Byte) (payload : List Byte)
  /-- READ_REPORT (R190). -/
  | readReport (p : Port) (tag : Byte) (payload : List Byte)
  /-- IDENTIFY (R184). -/
  | identify (p : Port) (tag : Byte) (payload : List Byte)
  /-- CLAIM (R69). -/
  | claim (p : Port) (tag : Byte) (payload : List Byte)
  /-- RELEASE (R70). -/
  | release (p : Port) (tag : Byte) (payload : List Byte)
  /-- FORCE_RELEASE (R71). -/
  | forceRelease (p : Port) (tag : Byte) (payload : List Byte)
  /-- INHIBIT (R74). -/
  | inhibit (p : Port) (tag : Byte) (payload : List Byte)
  /-- UNINHIBIT (R76). -/
  | uninhibit (p : Port) (tag : Byte) (payload : List Byte)
  /-- ACKNOWLEDGE (R78). -/
  | acknowledge (p : Port) (tag : Byte) (payload : List Byte)
  /-- GRANT_PERMIT (R81). -/
  | grantPermit (p : Port) (tag : Byte) (payload : List Byte)
  /-- REFUSE_PERMIT (R82). -/
  | refusePermit (p : Port) (tag : Byte) (payload : List Byte)
  /-- HOME (R103, R104). -/
  | home (p : Port) (tag : Byte) (payload : List Byte)
  /-- ABORT_HOME (R113). -/
  | abortHome (p : Port) (tag : Byte) (payload : List Byte)
  /-- INVALIDATE (R20). -/
  | invalidate (p : Port) (tag : Byte) (payload : List Byte)
  /-- ACCEPT_REFERENCE (R19). -/
  | acceptReference (p : Port) (tag : Byte) (payload : List Byte)
  /-- CLEAR_FLAGS (R23). -/
  | clearFlags (p : Port) (tag : Byte) (payload : List Byte)
  /-- READ_MOVE_ORDER (R121). -/
  | readMoveOrder (p : Port) (tag : Byte) (payload : List Byte)
  /-- MOVE_ACCEPT (R122). -/
  | moveAccept (p : Port) (tag : Byte) (payload : List Byte)
  /-- MOVE_END (R124). -/
  | moveEnd (p : Port) (tag : Byte) (payload : List Byte)
  /-- CHANNEL_RESET (R126). -/
  | channelReset (p : Port) (tag : Byte) (payload : List Byte)
  /-- SET_CAL (R52). -/
  | setCal (p : Port) (tag : Byte) (payload : List Byte)
  /-- DISCARD_CAL (R54). -/
  | discardCal (p : Port) (tag : Byte) (payload : List Byte)
  /-- COMMIT_CAL (R55, R57). -/
  | commitCal (p : Port) (tag : Byte) (payload : List Byte)
  /-- CAPTURE_ZERO (R64). -/
  | captureZero (p : Port) (tag : Byte) (payload : List Byte)
  /-- CAPTURE_COARSE (R65). -/
  | captureCoarse (p : Port) (tag : Byte) (payload : List Byte)
  /-- SET_STEP (R97). -/
  | setStep (p : Port) (tag : Byte) (payload : List Byte)
  /-- CLEAR_RECIPE (R97). -/
  | clearRecipe (p : Port) (tag : Byte) (payload : List Byte)
  /-- COMMIT_RECIPES (R98, R99). -/
  | commitRecipes (p : Port) (tag : Byte) (payload : List Byte)
  /-- CHECKPOINT (R146). -/
  | checkpoint (p : Port) (tag : Byte) (payload : List Byte)
  /-- DISCARD_SNAPSHOTS (R154). -/
  | discardSnapshots (p : Port) (tag : Byte) (payload : List Byte)
  /-- SUBSCRIBE (R186). -/
  | subscribe (p : Port) (tag : Byte) (payload : List Byte)
deriving DecidableEq, Repr

end Sys2Proof
end

