-- ==== Sys2Proof/Machine/Data.lean ====
section
/-! DEFINITION. The data of the blocks: the enumerations and records that the manual names, and collections indexed by axis and by port. -/
namespace Sys2Proof.Machine

/-- One value for each of the six axes. -/
structure PerAxis (α : Type) where
  v1 : α
  v2 : α
  v3 : α
  v4 : α
  v5 : α
  v6 : α
deriving DecidableEq, Repr

/-- The value of an axis. -/
def PerAxis.get {α : Type} (v : PerAxis α) : Axis → α
  | .a1 => v.v1
  | .a2 => v.v2
  | .a3 => v.v3
  | .a4 => v.v4
  | .a5 => v.v5
  | .a6 => v.v6

/-- The collection with the value of one axis replaced. -/
def PerAxis.set {α : Type} (v : PerAxis α) (a : Axis) (x : α) : PerAxis α :=
  match a with
  | .a1 => { v with v1 := x }
  | .a2 => { v with v2 := x }
  | .a3 => { v with v3 := x }
  | .a4 => { v with v4 := x }
  | .a5 => { v with v5 := x }
  | .a6 => { v with v6 := x }

/-- The collection that a rule gives axis by axis. -/
def PerAxis.of {α : Type} (f : Axis → α) : PerAxis α :=
  ⟨f .a1, f .a2, f .a3, f .a4, f .a5, f .a6⟩

/-- The same value for every axis. -/
def PerAxis.const {α : Type} (x : α) : PerAxis α := ⟨x, x, x, x, x, x⟩

/-- The axes in order 1 to 6. -/
def allAxes : List Axis := [.a1, .a2, .a3, .a4, .a5, .a6]

/-- The values in axis order. -/
def PerAxis.toList {α : Type} (v : PerAxis α) : List α := [v.v1, v.v2, v.v3, v.v4, v.v5, v.v6]

/-- A set of axes. -/
abbrev AxisSet := PerAxis Bool

/-- The axes of a set, in axis order. -/
def AxisSet.members (m : AxisSet) : List Axis := allAxes.filter m.get

/-- One value for each of the three ports. -/
structure PerPort (α : Type) where
  motion : α
  safety : α
  cell : α
deriving DecidableEq, Repr

/-- The value of a port. -/
def PerPort.get {α : Type} (v : PerPort α) : Port → α
  | .motion => v.motion
  | .safety => v.safety
  | .cell => v.cell

/-- The collection with the value of one port replaced. -/
def PerPort.set {α : Type} (v : PerPort α) (p : Port) (x : α) : PerPort α :=
  match p with
  | .motion => { v with motion := x }
  | .safety => { v with safety := x }
  | .cell => { v with cell := x }

/-- The two ports that can hold authority: claims, owners of runs and editors name one of them (R50, R67, R101). -/
inductive Claimant where
  | motion | cell
deriving DecidableEq, Repr

/-- A timer: stopped, or the time that remains. -/
abbrev Timer := Option Micros

/-! ### The Axis Reference Table (R1) -/

/-- Axis states (R1). -/
inductive AxisState where
  | unreferenced | restoring | homing | provisional | referenced | suspect
deriving DecidableEq, Repr

/-- Origins of a frame (R1, R7). -/
inductive Origin where
  | none | homed | snapshot | rebuilt
deriving DecidableEq, Repr

/-- Loss causes (R1, R8). -/
inductive LossCause where
  | sensorLost | trackLost | turnRange | coarseDiverged | invalidated | homingFailed | recoveryFailed
  | calibrationChanged | calibrationInvalid | powerReset
deriving DecidableEq, Repr

/-- Load classes (R1, R24). -/
inductive LoadClass where
  | unknown | empty | loaded | overload
deriving DecidableEq, Repr

/-- Sticky flags (R10). -/
structure StickyFlags where
  arithOverflow : Bool
  frameError : Bool
  coarseWarn : Bool
  contactSeen : Bool
deriving DecidableEq, Repr

/-- One axis record (R1) with its reported position (R4, R5): `none` is INDEFINITE. -/
structure AxisRecord where
  state : AxisState
  origin : Origin
  lossCause : LossCause
  turn : Int
  fine : Nat
  epoch : BitVec 16
  loadClass : LoadClass
  atRest : Bool
  brakeApplied : Bool
  beyondLimit : Bool
  movingSinceCapture : Bool
  sticky : StickyFlags
  disagreements : Nat
  runId : Option Nat
  position : Option Int
deriving DecidableEq, Repr

/-! ### The Sensor Interface (R27) -/

/-- Read status (R27). -/
inductive ReadStatus where
  | starting | tracking | lost
deriving DecidableEq, Repr

/-- Index watch (R37). -/
inductive IndexWatch where
  | off | positive | negative
deriving DecidableEq, Repr

/-- Filtered home-switch levels (R39). -/
inductive SwitchLevel where
  | inactive | active
deriving DecidableEq, Repr

/-- Brake levels (R40). -/
inductive BrakeLevel where
  | released | applied
deriving DecidableEq, Repr

/-- What the Sensor Interface holds for one axis (R27). `switchSampled` says that the first sample since reset has set the
switch level (R39); until then the level is the model's choice (log 10). `profileChangedAt` is the time of the last commit that
changed the sensor profile: a poll begun before it is discarded (R28, log 11). -/
structure SensorState where
  readStatus : ReadStatus
  failedReads : Nat
  restAnchor : Option Int
  restStart : Option Micros
  indexWatch : IndexWatch
  switchLevel : SwitchLevel
  switchSampled : Bool
  switchCandidate : Option (SwitchLevel × Micros)
  brakeLevel : Option BrakeLevel
  previousBrake : Option BrakeLevel
  coarseWindow : List Nat
  coarseAverage : Option Nat
  profileChangedAt : Option Micros
deriving DecidableEq, Repr

/-! ### Calibration (3.2, R50) -/

/-- A sensor profile (3.2, R29). -/
structure SensorProfile where
  startGap : Nat
  fineWidth : Nat
  statusWidth : Nat
deriving DecidableEq, Repr

/-- The calibration fields of one axis (3.2). `coarseTolerance` is T and `refCount` is R; times are in ms. -/
structure AxisCal where
  profile : SensorProfile
  refCount : Nat
  scale : Int
  homePosition : Int
  couplingSource : Option Axis
  couplingScale : Int
  coarsePresent : Bool
  coarseRef : Nat
  coarseHome : Int
  coarseGain : Int
  coarseTolerance : Nat
  emptyWindow : Nat
  loadedWindow : Nat
  movingExtra : Nat
  emptyMax : Nat
  loadedMax : Nat
  contactMargin : Nat
  contactCount : Nat
  rampIgnore : Nat
  switchFilter : Nat
  restBand : Nat
  homingSpeed : Nat
  moveTimeout : Nat
  loadDelay : Nat
  recipeIndex : Nat
  softLow : Int
  softHigh : Int
deriving DecidableEq, Repr

/-- The device-wide calibration fields (3.2): park, accept and stop times in ms, the permit timeout in s. -/
structure DeviceCal where
  parkTime : Nat
  permitTimeout : Nat
  acceptTimeout : Nat
  stopTimeout : Nat
deriving DecidableEq, Repr

/-- A calibration set (3.2). -/
structure CalSet where
  axes : PerAxis AxisCal
  device : DeviceCal
deriving DecidableEq, Repr

/-- Validity of the calibration or of the recipes (R50, R85). -/
inductive Validity where
  | valid | invalid
deriving DecidableEq, Repr

/-- The calibration write or the recipe write, with the bytes it carries and, once started, the number written (R50, R63, R85, R99). -/
inductive RegionWrite where
  | none
  | waiting (image : List Byte)
  | inProgress (image : List Byte) (written : Nat)
deriving DecidableEq, Repr

/-- One capture point: a coarse code and a joint value (R50, R65). -/
structure CapturePoint where
  code : Nat
  joint : Int
deriving DecidableEq, Repr

/-- The two capture points of an axis (R50). -/
structure CapturePoints where
  point1 : Option CapturePoint
  point2 : Option CapturePoint
deriving DecidableEq, Repr

/-- What the Calibration Store holds (R50). `loaded` says that the start-up load has completed (R66). -/
structure CalStore where
  active : CalSet
  staging : CalSet
  axisEditor : PerAxis (Option Claimant)
  deviceEditor : Option Claimant
  points : PerAxis CapturePoints
  validity : Validity
  fingerprint : BitVec 32
  write : RegionWrite
  loaded : Bool
deriving DecidableEq, Repr

/-! ### The Authority Table (R67) -/

/-- Permit states (R67). -/
inductive PermitState where
  | none | wanted | held
deriving DecidableEq, Repr

/-- The entry of one axis in the Authority Table (R67). -/
structure AuthEntry where
  claim : Option Claimant
  inhibited : Bool
  permit : PermitState
  permitRun : Option Nat
  permitTimer : Timer
deriving DecidableEq, Repr

/-! ### Recipes (R85, R86) -/

/-- Directions of motion (R86). -/
inductive Direction where
  | positive | negative
deriving DecidableEq, Repr

/-- The run flags (R86, R88). -/
inductive RunFlag where
  | l0 | l1
deriving DecidableEq, Repr

/-- Capture conditions (R86, R93). -/
inductive CaptureCond where
  | switchActive | loadLoaded | loadEmpty | coarseAboveHome | indexLatched
deriving DecidableEq, Repr

/-- Step conditions (R86, R88). -/
inductive StepCond where
  | always | ifL0 | ifNotL0 | ifL1 | ifNotL1
deriving DecidableEq, Repr

/-- The kinds of step with the fields that each names (R86); times in ms. -/
inductive StepBody where
  | seekSwitch (dir : Direction) (speed travel time : Nat)
  | leaveSwitch (dir : Direction) (speed travel time : Nat)
  | seekIndex (dir : Direction) (speed travel time : Nat)
  | moveBy (distance : Int) (speed time : Nat)
  | loadCheck
  | settle (time : Nat)
  | capture (flag : RunFlag) (cond : CaptureCond)
  | mark
  | verifyCoarse
deriving DecidableEq, Repr

/-- A step record (R86). -/
structure Step where
  cond : StepCond
  body : StepBody
deriving DecidableEq, Repr

/-- What the Recipe Store holds (R85). `loaded` says that the start-up load has completed (R100). -/
structure RecipeStore where
  active : List (List Step)
  staging : List (List Step)
  validity : Validity
  write : RegionWrite
  loaded : Bool
deriving DecidableEq, Repr

/-! ### Runs and the Move Channel (R101, R118) -/

/-- Run results (R115). -/
inductive RunResult where
  | homed | notMarked | noSwitch | switchStuck | noIndex | unsettled | contact | overload | coarseMismatch
  | permitRefused | permitTimeout | moveRejected | moveTimeout | inhibited | aborted | released | sensorLost | powerFail
deriving DecidableEq, Repr

/-- Run phases (R101, R102). -/
inductive RunPhase where
  | waitPermit | waitChannel | ordered | moving | stopping | settling | ending
deriving DecidableEq, Repr

/-- A run record; its axis is the index under which it is held (R101). -/
structure Run where
  runId : Nat
  owner : Claimant
  recipeIndex : Nat
  position : Nat
  l0 : Bool
  l1 : Bool
  latch : Option Int
  marked : Bool
  phase : RunPhase
  orderId : Option Nat
  stepStart : Option Micros
  pendingResult : Option RunResult
deriving DecidableEq, Repr

/-- Kinds of move order (R118). -/
inductive OrderKind where
  | jog | moveBy | hold
deriving DecidableEq, Repr

/-- An order record (R118); the load delay is in ms. -/
structure Order where
  orderId : Nat
  runId : Nat
  axis : Axis
  kind : OrderKind
  direction : Option Direction
  speed : Option Nat
  distance : Option Nat
  stop : Bool
  contactMargin : Nat
  contactCount : Nat
  rampIgnore : Nat
  loadDelay : Option Nat
deriving DecidableEq, Repr

/-- States of the order slot (R118). -/
inductive ChannelState where
  | empty | posted | active | stopping | blocked
deriving DecidableEq, Repr

/-- Outcomes named by MOVE_END (R124). -/
inductive MoveOutcome where
  | reached | stopped | refused | fault
deriving DecidableEq, Repr

/-- What the Move Channel holds (R118). -/
structure MoveChannel where
  slot : ChannelState
  order : Option Order
  detached : Bool
  queue : List Axis
  orderIdCounter : Nat
  acceptTimer : Timer
  stepTimer : Timer
  stopTimer : Timer
deriving DecidableEq, Repr

/-! ### The Load Monitor (R128) -/

/-- Contact watch (R135). -/
inductive ContactWatch where
  | off | ignoring | watching
deriving DecidableEq, Repr

/-- The live order of an axis (R128, R132). -/
structure LiveOrder where
  kind : OrderKind
  orderId : Nat
  acceptedAt : Micros
deriving DecidableEq, Repr

/-- The contact values of the live order (R128). -/
structure ContactValues where
  margin : Nat
  count : Nat
  rampIgnore : Nat
deriving DecidableEq, Repr

/-- What the Load Monitor holds for one axis (R128). -/
structure LoadState where
  window : List (BitVec 16)
  classTimer : Timer
  liveOrder : Option LiveOrder
  contactValues : Option ContactValues
  sampleTimer : Timer
  watch : ContactWatch
  ignoreTimer : Timer
  contactWindow : List Nat
  exceed : Nat
deriving DecidableEq, Repr

/-! ### The Continuity Unit (R140 to R142) -/

/-- Device phases (R141, R156). -/
inductive Phase where
  | startup | restoring | running | holdup
deriving DecidableEq, Repr

/-- The two snapshot slots (R140). -/
inductive Slot where
  | a | b
deriving DecidableEq, Repr

/-- Slot states (R140). -/
inductive SlotState where
  | empty | writing | committed
deriving DecidableEq, Repr

/-- Reasons of a capture (R140). -/
inductive CaptureReason where
  | powerFail | checkpoint | park
deriving DecidableEq, Repr

/-- One axis entry of a snapshot, field by field of R196. Codes are kept as the bytes that stand in the slot, so that an
entry carried forward is copied unchanged (R148) and R197 decides what an unknown code means. -/
structure SnapEntry where
  stateCode : Byte
  turn : Int
  fine : Nat
  originCode : Byte
  epoch : BitVec 16
  loadCode : Byte
  movingCode : Byte
  stickyCode : Byte
deriving DecidableEq, Repr

/-- The directory record of one slot (R142). The reason is the byte that stands in the slot; the entries are those that
the tests of R147 and R152 compare with (log 21). -/
structure DirEntry where
  state : SlotState
  sequence : BitVec 32
  reason : Byte
  fingerprint : BitVec 32
  marks : AxisSet
  passed : Bool
  entries : PerAxis SnapEntry
deriving DecidableEq, Repr

/-- The capture buffer: the header values that vary and the six entries (R148). -/
structure CaptureBuffer where
  sequence : BitVec 32
  reason : CaptureReason
  fingerprint : BitVec 32
  entries : PerAxis SnapEntry
deriving DecidableEq, Repr

/-- A capture in flight with its buffer, which exists exactly while it is in flight (R141). -/
structure Capture where
  target : Slot
  written : Nat
  buffer : CaptureBuffer
deriving DecidableEq, Repr

/-- Park states (R147). -/
inductive ParkState where
  | notParked | timing | ready
deriving DecidableEq, Repr

/-- What the Continuity Unit holds (R141, R142); `pfw` is true while the power-fail warning level is ASSERTED. -/
structure Continuity where
  phase : Phase
  pfw : Bool
  slotA : DirEntry
  slotB : DirEntry
  newest : Option Slot
  capture : Option Capture
  pendingMarks : AxisSet
  owed : Bool
  park : ParkState
  parkTimer : Timer
  waitingSlotWrites : List Slot
  waitingMarks : List (Slot × Axis)
deriving DecidableEq, Repr

/-- Whose byte is on the retention link (R143). A byte whose writer has been cut, abandoned or dropped is `orphan`: it is
completed and has no further effect. -/
inductive LinkOwner where
  | slotHeader | capture | mark (sl : Slot) (a : Axis) | calibration | recipe | orphan
deriving DecidableEq, Repr

/-- The number of bytes of retention memory: 414 + 1941 + 128 + 128 (R196, log 8). -/
abbrev retentionSize : Nat := 2611

/-- The byte being written over the retention link (R143, R144). -/
structure LinkByte where
  owner : LinkOwner
  addr : Fin retentionSize
  value : Byte
deriving DecidableEq, Repr

/-! ### The Recovery Planner (R158 to R168) -/

/-- Slot verdicts (R158). -/
inductive Verdict where
  | empty | torn | badCheck | badFormat | staleCalibration | valid
deriving DecidableEq, Repr

/-- Recovery outcomes (R168). -/
inductive RecoveryOutcome where
  | pending | restored | rebuilt | failed | notAttempted
deriving DecidableEq, Repr

/-- Reasons of a recovery outcome (R168). -/
inductive Reason where
  | withinWindow | coarseMatch | noSensor | sourceUnresolved | conflict | windowExceeded | noCandidate
  | notRestorable | calibrationInvalid
deriving DecidableEq, Repr

/-- The snapshot-path field (R165, R168). -/
inductive SnapPath where
  | used | noSource | notFramed | outdated | overload | disturbed | windowExceeded | turnOutOfRange
deriving DecidableEq, Repr

/-- A recovery record (R168). -/
structure RecoveryRecord where
  outcome : RecoveryOutcome
  reason : Option Reason
  path : Option SnapPath
  delta : Option Int
  window : Option Nat
  turn : Option Int
  source : Option Slot
deriving DecidableEq, Repr

/-- The sensor wait timer (R160, R163); `expired` is what READ_RECOVERY reports of it (R168, log 15). -/
inductive SensorWait where
  | stopped | running (left : Micros) | expired
deriving DecidableEq, Repr

/-- The source entries: six entries and six marks as read (R157). -/
structure SourceEntries where
  entries : PerAxis SnapEntry
  marks : AxisSet
deriving DecidableEq, Repr

/-- What the Recovery Planner holds (R160). -/
structure Planner where
  verdictA : Option Verdict
  verdictB : Option Verdict
  source : Option Slot
  entries : Option SourceEntries
  worklist : List Axis
  sensorWait : SensorWait
  firstFine : PerAxis (Option Nat)
  disturbed : AxisSet
  outcomes : PerAxis RecoveryRecord
deriving DecidableEq, Repr

/-! ### Port Controllers (R174, R187) -/

/-- Result codes (R181). -/
inductive ResultCode where
  | done | accepted | stale | frameError | unknown | notPermitted | range | notReady | denied | busy | inhibited | wrongState
deriving DecidableEq, Repr

/-- A response: the parts of a response frame from which the part forms the frame (R176, R178). -/
structure Response where
  tag : Byte
  code : ResultCode
  payload : List Byte
deriving DecidableEq, Repr

/-- The causes of reports (R186). -/
inductive Cause where
  | axisState | runEnd | moveOrder | permitWanted | ackWanted | snapshot | calCommitted | recoveryDone | channelBlocked
deriving DecidableEq, Repr

/-- A set of causes (R186, R187). -/
structure CauseSet where
  axisState : Bool
  runEnd : Bool
  moveOrder : Bool
  permitWanted : Bool
  ackWanted : Bool
  snapshot : Bool
  calCommitted : Bool
  recoveryDone : Bool
  channelBlocked : Bool
deriving DecidableEq, Repr

/-- One axis of a report's axis list (R187). -/
structure AxisView where
  state : AxisState
  epoch : BitVec 16
  position : Option Int
  atRest : Bool
  brakeApplied : Bool
  beyondLimit : Bool
  movingSinceCapture : Bool
  sticky : StickyFlags
deriving DecidableEq, Repr

/-- A report record (R187). A list with at most one entry per axis in axis order is held as an entry or none per axis. -/
structure ReportRecord where
  causes : CauseSet
  axisList : PerAxis (Option AxisView)
  runResults : PerAxis (Option (Nat × RunResult))
  permitWanted : PerAxis (Option Nat)
  ackWanted : PerAxis (Option (BitVec 16))
  blocked : Option (Axis × Nat)
  committedAxes : AxisSet
  committedDevice : Bool
deriving DecidableEq, Repr

/-- A reportable event handed to the Port Controllers (R188). -/
inductive ReportEvent where
  | axisState (a : Axis)
  | runEnd (a : Axis) (owner : Claimant) (runId : Nat) (result : RunResult)
  | moveOrder
  | permitWanted (a : Axis) (runId : Nat)
  | ackWanted (a : Axis) (epoch : BitVec 16)
  | snapshot
  | calCommitted (axes : AxisSet) (device : Bool)
  | recoveryDone (pairs : PerAxis (Option (BitVec 16)))
  | channelBlocked (a : Axis) (orderId : Nat)
deriving DecidableEq, Repr

/-- What one Port Controller holds (R174). -/
structure PortState where
  held : Option Response
  frameErrors : Nat
  axisMask : AxisSet
  causeMask : CauseSet
  queue : List ReportRecord
  alert : Bool
  gathered : List ReportEvent
deriving DecidableEq, Repr

end Sys2Proof.Machine
end

