-- ==== Sys2Proof/Machine/Bytes.lean ====
section
/-! DEFINITION. Bytes and codes: big-endian fields, masks, the three checks of 12.4, and the codes of enumerated values (R192). -/
namespace Sys2Proof.Machine

/-! ### Fields, most significant byte first (R192) -/

/-- The low `n` bytes of a number, most significant first. -/
def be : Nat → Nat → List Byte
  | 0, _ => []
  | n + 1, v => BitVec.ofNat 8 (v >>> (8 * n)) :: be n v

/-- A signed number in `n` bytes of two's complement. -/
def beInt (n : Nat) (v : Int) : List Byte := be n (v.emod ((2 : Int) ^ (8 * n))).toNat

/-- The unsigned number that bytes give, most significant first. -/
def natOfBytes (bs : List Byte) : Nat := bs.foldl (fun acc b => acc * 256 + b.toNat) 0

/-- The signed number that bytes give, most significant first. -/
def intOfBytes (bs : List Byte) : Int :=
  let v := natOfBytes bs
  if 2 * v < 256 ^ bs.length then (v : Int) else (v : Int) - ((256 ^ bs.length : Nat) : Int)

/-- The unsigned number that bits give, most significant first (R29). -/
def natOfBits (bs : List Bool) : Nat := bs.foldl (fun acc b => acc * 2 + b.toNat) 0

/-- The bytes of a region from an offset. -/
def slice (bs : List Byte) (off len : Nat) : List Byte := (bs.drop off).take len

/-! ### Sets as masks (R192) -/

/-- A mask with bit 0 for the first member. -/
def maskOf (bits : List Bool) : Nat := bits.foldr (fun b acc => b.toNat + 2 * acc) 0

/-- A set of axes as an axis mask: bit 0 is axis 1. -/
def AxisSet.toMask (m : AxisSet) : Nat := maskOf (PerAxis.toList m)

/-- The set of axes that an axis mask names; none when a bit above bit 5 is set (R183, R193). -/
def axisSetOfMask (b : Byte) : Option AxisSet :=
  if b.toNat < 64 then
    some ⟨b.toNat.testBit 0, b.toNat.testBit 1, b.toNat.testBit 2, b.toNat.testBit 3, b.toNat.testBit 4, b.toNat.testBit 5⟩
  else none

/-- Sticky flags as a mask (R194). -/
def StickyFlags.toMask (f : StickyFlags) : Nat := maskOf [f.arithOverflow, f.frameError, f.coarseWarn, f.contactSeen]

/-- The sticky flags of the low four bits of a byte; higher bits are passed over (R197). -/
def stickyOfBits (b : Byte) : StickyFlags :=
  ⟨b.toNat.testBit 0, b.toNat.testBit 1, b.toNat.testBit 2, b.toNat.testBit 3⟩

/-- The sticky flags that a request's mask names; none when a bit above bit 3 is set (R193). -/
def stickyOfMask (b : Byte) : Option StickyFlags :=
  if b.toNat < 16 then some (stickyOfBits b) else none

/-- A set of causes as a cause mask: AXIS_STATE is bit 0, CHANNEL_BLOCKED bit 8 (R194). -/
def CauseSet.toMask (c : CauseSet) : Nat :=
  maskOf [c.axisState, c.runEnd, c.moveOrder, c.permitWanted, c.ackWanted, c.snapshot, c.calCommitted, c.recoveryDone, c.channelBlocked]

/-- The set of causes that a cause mask names; none when a bit above bit 8 is set (R186, R193). -/
def causeSetOfMask (v : Nat) : Option CauseSet :=
  if v < 512 then
    some ⟨v.testBit 0, v.testBit 1, v.testBit 2, v.testBit 3, v.testBit 4, v.testBit 5, v.testBit 6, v.testBit 7, v.testBit 8⟩
  else none

/-! ### The checks (12.4) -/

/-- One bit of a cyclic redundancy check: the most significant bit first, not reflected. -/
def crcBit {w : Nat} (poly reg : BitVec w) (bit : Bool) : BitVec w :=
  if reg.msb != bit then (reg <<< 1) ^^^ poly else reg <<< 1

/-- The bits of a byte, most significant first. -/
def bitsOfByte (b : Byte) : List Bool :=
  [b.toNat.testBit 7, b.toNat.testBit 6, b.toNat.testBit 5, b.toNat.testBit 4,
   b.toNat.testBit 3, b.toNat.testBit 2, b.toNat.testBit 1, b.toNat.testBit 0]

/-- A check over bytes in order. -/
def crcBytes {w : Nat} (poly init : BitVec w) (bs : List Byte) : BitVec w :=
  bs.foldl (fun reg b => (bitsOfByte b).foldl (crcBit poly) reg) init

/-- CRC-8 over bits: x^8+x^2+x+1, initial value 0 (R30). -/
def crc8 (bits : List Bool) : BitVec 8 := bits.foldl (crcBit 0x07#8) 0x00#8

/-- CRC-16 over bytes: x^16+x^12+x^5+1, initial value all ones, no final inversion (R178). -/
def crc16 (bs : List Byte) : BitVec 16 := crcBytes 0x1021#16 0xFFFF#16 bs

/-- CRC-32 over bytes: polynomial 0x04C11DB7, initial value all ones, inverted at the end (R62). -/
def crc32 (bs : List Byte) : BitVec 32 := ~~~ (crcBytes 0x04C11DB7#32 0xFFFFFFFF#32 bs)

/-! ### Codes of enumerated values (R192 to R196) -/

/-- The number of an axis (00_scope, "Axes"). -/
def axisNumber : Axis → Nat
  | .a1 => 1
  | .a2 => 2
  | .a3 => 3
  | .a4 => 4
  | .a5 => 5
  | .a6 => 6

/-- The axis that a number names, if it is 1 to 6. -/
def axisOfNumber : Nat → Option Axis
  | 1 => some .a1
  | 2 => some .a2
  | 3 => some .a3
  | 4 => some .a4
  | 5 => some .a5
  | 6 => some .a6
  | _ => none

/-- A byte of a small number. -/
def byte (n : Nat) : Byte := BitVec.ofNat 8 n

/-- A Boolean item: 0 or 1. -/
def flagByte (b : Bool) : Byte := byte b.toNat

/-- UNREFERENCED 0 to SUSPECT 5 (R192). -/
def AxisState.code : AxisState → Nat
  | .unreferenced => 0
  | .restoring => 1
  | .homing => 2
  | .provisional => 3
  | .referenced => 4
  | .suspect => 5

/-- The axis state of a code; none for a code above 5 (R197). -/
def axisStateOfCode : Nat → Option AxisState
  | 0 => some .unreferenced
  | 1 => some .restoring
  | 2 => some .homing
  | 3 => some .provisional
  | 4 => some .referenced
  | 5 => some .suspect
  | _ => none

/-- NONE 0 to REBUILT 3. -/
def Origin.code : Origin → Nat
  | .none => 0
  | .homed => 1
  | .snapshot => 2
  | .rebuilt => 3

/-- SENSOR_LOST 0 to POWER_RESET 9 (R194). -/
def LossCause.code : LossCause → Nat
  | .sensorLost => 0
  | .trackLost => 1
  | .turnRange => 2
  | .coarseDiverged => 3
  | .invalidated => 4
  | .homingFailed => 5
  | .recoveryFailed => 6
  | .calibrationChanged => 7
  | .calibrationInvalid => 8
  | .powerReset => 9

/-- UNKNOWN 0 to OVERLOAD 3. -/
def LoadClass.code : LoadClass → Nat
  | .unknown => 0
  | .empty => 1
  | .loaded => 2
  | .overload => 3

/-- The load class of a code in a slot; a code above 3 is taken as OVERLOAD (R197). -/
def loadClassOfCode : Nat → LoadClass
  | 0 => .unknown
  | 1 => .empty
  | 2 => .loaded
  | _ => .overload

/-- MOTION 0, CELL 1 (R195, READ_RUN). -/
def Claimant.code : Claimant → Nat
  | .motion => 0
  | .cell => 1

/-- NONE 0, MOTION 1, CELL 2 (R195): claims and editors. -/
def claimCode : Option Claimant → Nat
  | none => 0
  | some .motion => 1
  | some .cell => 2

/-- MOTION 0, SAFETY 1, CELL 2 (R195, IDENTIFY). -/
def portCode : Port → Nat
  | .motion => 0
  | .safety => 1
  | .cell => 2

/-- NONE 0, WANTED 1, HELD 2 (R195). -/
def PermitState.code : PermitState → Nat
  | .none => 0
  | .wanted => 1
  | .held => 2

/-- VALID 0, INVALID 1 (R195). -/
def Validity.code : Validity → Nat
  | .valid => 0
  | .invalid => 1

/-- none 0, WAITING 1, IN_PROGRESS 2 (R195). -/
def RegionWrite.code : RegionWrite → Nat
  | .none => 0
  | .waiting _ => 1
  | .inProgress _ _ => 2

/-- STARTUP 0 to HOLDUP 3 (R195). -/
def Phase.code : Phase → Nat
  | .startup => 0
  | .restoring => 1
  | .running => 2
  | .holdup => 3

/-- none 0, A 1, B 2 (R195). -/
def slotCode : Option Slot → Nat
  | none => 0
  | some .a => 1
  | some .b => 2

/-- EMPTY 0, WRITING 1, COMMITTED 2 (R195, READ_SLOTS). -/
def SlotState.code : SlotState → Nat
  | .empty => 0
  | .writing => 1
  | .committed => 2

/-- The slot state byte in retention memory (R196). -/
def SlotState.byte : SlotState → Byte
  | .empty => 0x00#8
  | .writing => 0x5A#8
  | .committed => 0xA5#8

/-- POWER_FAIL 0, CHECKPOINT 1, PARK 2 (R196). -/
def CaptureReason.code : CaptureReason → Nat
  | .powerFail => 0
  | .checkpoint => 1
  | .park => 2

/-- absent 0, EMPTY 1 to VALID 6 (R195). -/
def verdictCode : Option Verdict → Nat
  | none => 0
  | some .empty => 1
  | some .torn => 2
  | some .badCheck => 3
  | some .badFormat => 4
  | some .staleCalibration => 5
  | some .valid => 6

/-- EMPTY 0 to BLOCKED 4 (R195). -/
def ChannelState.code : ChannelState → Nat
  | .empty => 0
  | .posted => 1
  | .active => 2
  | .stopping => 3
  | .blocked => 4

/-- JOG 0, MOVE_BY 1, HOLD 2 (R195). -/
def OrderKind.code : OrderKind → Nat
  | .jog => 0
  | .moveBy => 1
  | .hold => 2

/-- POSITIVE 0, NEGATIVE 1 (R195, R196). -/
def Direction.code : Direction → Nat
  | .positive => 0
  | .negative => 1

/-- WAIT_PERMIT 0 to ENDING 6 (R195). -/
def RunPhase.code : RunPhase → Nat
  | .waitPermit => 0
  | .waitChannel => 1
  | .ordered => 2
  | .moving => 3
  | .stopping => 4
  | .settling => 5
  | .ending => 6

/-- HOMED 0 to POWER_FAIL 17 (R192). -/
def RunResult.code : RunResult → Nat
  | .homed => 0
  | .notMarked => 1
  | .noSwitch => 2
  | .switchStuck => 3
  | .noIndex => 4
  | .unsettled => 5
  | .contact => 6
  | .overload => 7
  | .coarseMismatch => 8
  | .permitRefused => 9
  | .permitTimeout => 10
  | .moveRejected => 11
  | .moveTimeout => 12
  | .inhibited => 13
  | .aborted => 14
  | .released => 15
  | .sensorLost => 16
  | .powerFail => 17

/-- PENDING 0 to NOT_ATTEMPTED 4 (R195). -/
def RecoveryOutcome.code : RecoveryOutcome → Nat
  | .pending => 0
  | .restored => 1
  | .rebuilt => 2
  | .failed => 3
  | .notAttempted => 4

/-- absent 0, WITHIN_WINDOW 1 to CALIBRATION_INVALID 9 (R195). -/
def reasonCode : Option Reason → Nat
  | none => 0
  | some .withinWindow => 1
  | some .coarseMatch => 2
  | some .noSensor => 3
  | some .sourceUnresolved => 4
  | some .conflict => 5
  | some .windowExceeded => 6
  | some .noCandidate => 7
  | some .notRestorable => 8
  | some .calibrationInvalid => 9

/-- absent 0, USED 1 to TURN_OUT_OF_RANGE 8 (R195). -/
def snapPathCode : Option SnapPath → Nat
  | none => 0
  | some .used => 1
  | some .noSource => 2
  | some .notFramed => 3
  | some .outdated => 4
  | some .overload => 5
  | some .disturbed => 6
  | some .windowExceeded => 7
  | some .turnOutOfRange => 8

/-- Neither running nor expired 0, running 1, expired 2 (R195). -/
def SensorWait.code : SensorWait → Nat
  | .stopped => 0
  | .running _ => 1
  | .expired => 2

/-- The result byte of a response (R193). -/
def ResultCode.byte : ResultCode → Byte
  | .done => 0x00#8
  | .accepted => 0x01#8
  | .stale => 0x02#8
  | .frameError => 0x10#8
  | .unknown => 0x11#8
  | .notPermitted => 0x12#8
  | .range => 0x13#8
  | .notReady => 0x14#8
  | .denied => 0x15#8
  | .busy => 0x16#8
  | .inhibited => 0x17#8
  | .wrongState => 0x18#8

/-- The response frame: length, tag, result code, payload and CRC-16 (R176 to R178, 12.1). -/
def Response.frame (r : Response) : List Byte :=
  let body := byte (r.payload.length + 2) :: r.tag :: r.code.byte :: r.payload
  body ++ be 2 (crc16 body).toNat

end Sys2Proof.Machine
end

