-- ==== Sys2Proof/Machine/Frame.lean ====
section
/-! DEFINITION. The port frame: the checks of a period taken as a request, the kinds of the catalogue, and what a frame of a
kind asks (R176, R177, R193, 12.1). -/
namespace Sys2Proof.Machine

/-- A frame error: the length is 1 or above 122, the period is too short, or the CRC-16 differs (R177). -/
def frameFails (bytes : List Byte) : Bool :=
  let len := (bytes.getD 0 0).toNat
  decide (len = 1) || decide (122 < len) || decide (bytes.length < len + 3)
    || decide ((crc16 (bytes.take (len + 1))).toNat ≠ natOfBytes (slice bytes (len + 1) 2))

/-- The reads and IDENTIFY: kinds 0x01 to 0x09 (R193). -/
def readOfKind (p : Port) (tag : Byte) (payload : List Byte) : Nat → Option Instr
  | 0x01 => some (.readAxes p tag payload)
  | 0x02 => some (.readAxis p tag payload)
  | 0x03 => some (.readRun p tag payload)
  | 0x04 => some (.readRecovery p tag payload)
  | 0x05 => some (.readSlots p tag payload)
  | 0x06 => some (.readCal p tag payload)
  | 0x07 => some (.readStep p tag payload)
  | 0x08 => some (.readReport p tag payload)
  | 0x09 => some (.identify p tag payload)
  | _ => none

/-- The authority requests: kinds 0x10 to 0x17 (R193). -/
def authorityOfKind (p : Port) (tag : Byte) (payload : List Byte) : Nat → Option Instr
  | 0x10 => some (.claim p tag payload)
  | 0x11 => some (.release p tag payload)
  | 0x12 => some (.forceRelease p tag payload)
  | 0x13 => some (.inhibit p tag payload)
  | 0x14 => some (.uninhibit p tag payload)
  | 0x15 => some (.acknowledge p tag payload)
  | 0x16 => some (.grantPermit p tag payload)
  | 0x17 => some (.refusePermit p tag payload)
  | _ => none

/-- The reference requests 0x20 to 0x24 and the channel requests 0x30 to 0x33 (R193). -/
def motionOfKind (p : Port) (tag : Byte) (payload : List Byte) : Nat → Option Instr
  | 0x20 => some (.home p tag payload)
  | 0x21 => some (.abortHome p tag payload)
  | 0x22 => some (.invalidate p tag payload)
  | 0x23 => some (.acceptReference p tag payload)
  | 0x24 => some (.clearFlags p tag payload)
  | 0x30 => some (.readMoveOrder p tag payload)
  | 0x31 => some (.moveAccept p tag payload)
  | 0x32 => some (.moveEnd p tag payload)
  | 0x33 => some (.channelReset p tag payload)
  | _ => none

/-- The calibration, recipe, continuity and report requests: kinds 0x40 to 0x70 (R193). -/
def storeOfKind (p : Port) (tag : Byte) (payload : List Byte) : Nat → Option Instr
  | 0x40 => some (.setCal p tag payload)
  | 0x41 => some (.discardCal p tag payload)
  | 0x42 => some (.commitCal p tag payload)
  | 0x43 => some (.captureZero p tag payload)
  | 0x44 => some (.captureCoarse p tag payload)
  | 0x50 => some (.setStep p tag payload)
  | 0x51 => some (.clearRecipe p tag payload)
  | 0x52 => some (.commitRecipes p tag payload)
  | 0x60 => some (.checkpoint p tag payload)
  | 0x61 => some (.discardSnapshots p tag payload)
  | 0x70 => some (.subscribe p tag payload)
  | _ => none

/-- The request of a kind; none for a kind that names no request (R193). -/
def requestOfKind (p : Port) (kind : Byte) (tag : Byte) (payload : List Byte) : Option Instr :=
  if kind.toNat < 0x10 then readOfKind p tag payload kind.toNat
  else if kind.toNat < 0x20 then authorityOfKind p tag payload kind.toNat
  else if kind.toNat < 0x40 then motionOfKind p tag payload kind.toNat
  else storeOfKind p tag payload kind.toNat

/-- A kind names a request of the catalogue (R180, check 2). -/
def kindKnown (kind : Byte) : Bool := (requestOfKind .motion kind 0 []).isSome

end Sys2Proof.Machine
end

