-- ==== Sys2Proof/WellFormed.lean ====
section
/-! DEFINITION. Well-formed commands: what the part's own links and inputs can produce. -/
namespace Sys2Proof

/-- A payload fits a request frame: at most 120 bytes (R176). -/
def payloadFits (payload : List Byte) : Bool := decide (payload.length ≤ 120)

/-- A command is well formed: a period that is not taken has fewer than 8 edges (R176), a frame error fails a check of
R177 and is no fetch, an unknown kind is outside R193, a poll fills at most the 64-bit window (R29), and a payload fits
its frame. -/
def Instr.wf : Instr → Bool
  | .powerOnReset | .powerLoss _ | .externalReset | .externalResetRelease => true
  | .calibrationStartUpLoad | .recipeStartUpLoad | .startupComplete | .pfwAsserted | .pfwDeasserted => true
  | .readEvent _ _ frame => decide (frame.length ≤ 64)
  | .homeSwitchSample .. | .brakeSample .. | .coarseSample .. | .currentSample .. => true
  | .crossCheckExpiry | .classificationTimerExpiry _ | .loadSampleTimerExpiry _ | .rampIgnoreExpiry _ => true
  | .permitTimerExpiry _ | .settleTimerExpiry _ | .stepTimerExpiry | .acceptTimerExpiry | .stopTimerExpiry => true
  | .parkTimerExpiry | .sensorWaitTimerExpiry | .retentionByteWritten => true
  | .shortPeriod _ edges => decide (edges < 8)
  | .fetch _ => true
  | .frameError _ received => decide (received.getD 0 0 ≠ 0) && Machine.frameFails received
  | .unknownKind _ kind _ payload => !Machine.kindKnown kind && payloadFits payload
  | .readAxes _ _ b | .readAxis _ _ b | .readRun _ _ b | .readRecovery _ _ b | .readSlots _ _ b => payloadFits b
  | .readCal _ _ b | .readStep _ _ b | .readReport _ _ b | .identify _ _ b => payloadFits b
  | .claim _ _ b | .release _ _ b | .forceRelease _ _ b | .inhibit _ _ b | .uninhibit _ _ b => payloadFits b
  | .acknowledge _ _ b | .grantPermit _ _ b | .refusePermit _ _ b => payloadFits b
  | .home _ _ b | .abortHome _ _ b | .invalidate _ _ b | .acceptReference _ _ b | .clearFlags _ _ b => payloadFits b
  | .readMoveOrder _ _ b | .moveAccept _ _ b | .moveEnd _ _ b | .channelReset _ _ b => payloadFits b
  | .setCal _ _ b | .discardCal _ _ b | .commitCal _ _ b | .captureZero _ _ b | .captureCoarse _ _ b => payloadFits b
  | .setStep _ _ b | .clearRecipe _ _ b | .commitRecipes _ _ b => payloadFits b
  | .checkpoint _ _ b | .discardSnapshots _ _ b | .subscribe _ _ b => payloadFits b

end Sys2Proof
end

