-- ==== Sys2Proof/Decode.lean ====
section
/-! DEFINITION. The table's words (it gives no row any bits), the decoder of a chip-select period, and the encoder of request frames. -/
namespace Sys2Proof

/-- The command that a word of the opcode table spells: the table gives no row any bits, so no word spells a command (log 31). -/
def decodeTableWord (_nbits _w : Nat) : Option Instr := none

/-- The command that a whole frame whose checks pass asks (R180, R193). -/
def decodeFrame (p : Port) (bytes : List Byte) : Instr :=
  let kind := bytes.getD 1 0
  let tag := bytes.getD 2 0
  let payload := Machine.slice bytes 3 ((bytes.getD 0 0).toNat - 2)
  (Machine.requestOfKind p kind tag payload).getD (.unknownKind p kind tag payload)

/-- The command that a chip-select period makes at its deassertion, from its clock edges and the whole bytes received
(R176, R177). -/
def decodePeriod (p : Port) (edges : Nat) (bytes : List Byte) : Instr :=
  if edges < 8 then .shortPeriod p edges
  else if bytes.getD 0 0 = 0 then .fetch p
  else if Machine.frameFails bytes then .frameError p bytes
  else decodeFrame p bytes

/-- Port, kind, tag and payload of a request; none for a command that is no request frame (R193). -/
def requestParts : Instr → Option (Port × Byte × Byte × List Byte)
  | .readAxes p t b => some (p, 0x01, t, b)
  | .readAxis p t b => some (p, 0x02, t, b)
  | .readRun p t b => some (p, 0x03, t, b)
  | .readRecovery p t b => some (p, 0x04, t, b)
  | .readSlots p t b => some (p, 0x05, t, b)
  | .readCal p t b => some (p, 0x06, t, b)
  | .readStep p t b => some (p, 0x07, t, b)
  | .readReport p t b => some (p, 0x08, t, b)
  | .identify p t b => some (p, 0x09, t, b)
  | .claim p t b => some (p, 0x10, t, b)
  | .release p t b => some (p, 0x11, t, b)
  | .forceRelease p t b => some (p, 0x12, t, b)
  | .inhibit p t b => some (p, 0x13, t, b)
  | .uninhibit p t b => some (p, 0x14, t, b)
  | .acknowledge p t b => some (p, 0x15, t, b)
  | .grantPermit p t b => some (p, 0x16, t, b)
  | .refusePermit p t b => some (p, 0x17, t, b)
  | .home p t b => some (p, 0x20, t, b)
  | .abortHome p t b => some (p, 0x21, t, b)
  | .invalidate p t b => some (p, 0x22, t, b)
  | .acceptReference p t b => some (p, 0x23, t, b)
  | .clearFlags p t b => some (p, 0x24, t, b)
  | .readMoveOrder p t b => some (p, 0x30, t, b)
  | .moveAccept p t b => some (p, 0x31, t, b)
  | .moveEnd p t b => some (p, 0x32, t, b)
  | .channelReset p t b => some (p, 0x33, t, b)
  | .setCal p t b => some (p, 0x40, t, b)
  | .discardCal p t b => some (p, 0x41, t, b)
  | .commitCal p t b => some (p, 0x42, t, b)
  | .captureZero p t b => some (p, 0x43, t, b)
  | .captureCoarse p t b => some (p, 0x44, t, b)
  | .setStep p t b => some (p, 0x50, t, b)
  | .clearRecipe p t b => some (p, 0x51, t, b)
  | .commitRecipes p t b => some (p, 0x52, t, b)
  | .checkpoint p t b => some (p, 0x60, t, b)
  | .discardSnapshots p t b => some (p, 0x61, t, b)
  | .subscribe p t b => some (p, 0x70, t, b)
  | .unknownKind p k t b => some (p, k, t, b)
  | _ => none

/-- A request frame: length, kind, tag, payload and CRC-16 (10.2, 12.1). -/
def requestFrame (kind tag : Byte) (payload : List Byte) : List Byte :=
  let body := Machine.byte (payload.length + 2) :: kind :: tag :: payload
  body ++ Machine.be 2 (Machine.crc16 body).toNat

/-- The period that carries a request: its port and its bytes; none for a command that is no request. -/
def encodePeriod (i : Instr) : Option (Port × List Byte) :=
  (requestParts i).map fun x => (x.1, requestFrame x.2.1 x.2.2.1 x.2.2.2)

end Sys2Proof
end

