-- ==== Sys2Proof/Config.lean ====
section
/-! DEFINITION. The free values: what the manual leaves open, as constants without a body.
The first two are applied to `State.freeCount`, which counts the free values already used, the third to the number that it stands for. -/
namespace Sys2Proof

/-- What a retention byte holds when supply fails before its write completes (R144 gives only the case in which the
byte completes while supply lasts). DESIGN CHOICE, safe: log 6. -/
opaque Config.tornByte : Nat → Byte

/-- The magnitudes that a classification or a load sample would read where the current window holds too few samples.
The periods of R129 and R130 exclude the case; the commands of this model can produce it. DESIGN CHOICE, safe: log 24. -/
opaque Config.unsampledMagnitude : Nat → Nat

/-- The byte that READ_SLOTS gives for a number of waiting slot writes above 255: R195 gives the number one byte, and R141 sets no bound on the
list. DESIGN CHOICE, safe: log 49. -/
opaque Config.longCount : Nat → Byte

end Sys2Proof
end

