-- ==== Sys2Proof/Machine/Operands.lean ====
section
/-! DEFINITION. The payload forms of the requests (R183, R193): what check 4 accepts, and the operands it yields. -/
namespace Sys2Proof.Machine

/-- No payload. -/
def formNone : List Byte → Option Unit
  | [] => some ()
  | _ => none

/-- An axis (1). -/
def formAxis : List Byte → Option Axis
  | [a] => axisOfNumber a.toNat
  | _ => none

/-- An axis mask (1). -/
def formMask : List Byte → Option AxisSet
  | [m] => axisSetOfMask m
  | _ => none

/-- An axis (1) and a run id (1). -/
def formPermit : List Byte → Option (Axis × Nat)
  | [a, r] => (axisOfNumber a.toNat).map fun x => (x, r.toNat)
  | _ => none

/-- An axis mask (1) and a sticky-flag mask (1). -/
def formFlags : List Byte → Option (AxisSet × StickyFlags)
  | [m, f] =>
    match axisSetOfMask m, stickyOfMask f with
    | some x, some y => some (x, y)
    | _, _ => none
  | _ => none

/-- An order id (1). -/
def formOrder : List Byte → Option Nat
  | [i] => some i.toNat
  | _ => none

/-- REACHED 0, STOPPED 1, REFUSED 2, FAULT 3. -/
def moveOutcomeOfCode : Nat → Option MoveOutcome
  | 0 => some .reached
  | 1 => some .stopped
  | 2 => some .refused
  | 3 => some .fault
  | _ => none

/-- An order id (1) and an outcome (1). -/
def formMoveEnd : List Byte → Option (Nat × MoveOutcome)
  | [i, o] => (moveOutcomeOfCode o.toNat).map fun x => (i.toNat, x)
  | _ => none

/-- The pairs of axis (1) and epoch (2); none when an axis is outside 1 to 6 or bytes are left over. -/
def formPairs : List Byte → Option (List (Axis × BitVec 16))
  | [] => some []
  | a :: hi :: lo :: rest =>
    match axisOfNumber a.toNat, formPairs rest with
    | some x, some more => some ((x, BitVec.ofNat 16 (hi.toNat * 256 + lo.toNat)) :: more)
    | _, _ => none
  | _ => none

/-- A count of 1 to 12 (1) and as many pairs (R78). -/
def formAcknowledge : List Byte → Option (List (Axis × BitVec 16))
  | [] => none
  | n :: rest =>
    if 1 ≤ n.toNat ∧ n.toNat ≤ 12 ∧ rest.length = 3 * n.toNat then formPairs rest else none

/-- The set that a request names. -/
inductive SetName where
  | active | staging
deriving DecidableEq, Repr

/-- ACTIVE 0, STAGING 1. -/
def setOfCode : Nat → Option SetName
  | 0 => some .active
  | 1 => some .staging
  | _ => none

/-- The part that a request names: the device-wide fields or an axis. -/
inductive CalPart where
  | device
  | axis (a : Axis)
deriving DecidableEq, Repr

/-- Part 0 is the device, 1 to 6 an axis. -/
def partOfCode (n : Nat) : Option CalPart := if n = 0 then some .device else (axisOfNumber n).map .axis

/-- A set (1) and a part (1). -/
def formReadCal : List Byte → Option (SetName × CalPart)
  | [k, p] =>
    match setOfCode k.toNat, partOfCode p.toNat with
    | some x, some y => some (x, y)
    | _, _ => none
  | _ => none

/-- A part (1), a field number (1) and a signed value (4). -/
def formSetCal : List Byte → Option (CalPart × Nat × Int)
  | [p, f, b3, b2, b1, b0] => (partOfCode p.toNat).map fun x => (x, f.toNat, intOfBytes [b3, b2, b1, b0])
  | _ => none

/-- A flag: 0 or 1. -/
def flagOfCode : Nat → Option Bool
  | 0 => some false
  | 1 => some true
  | _ => none

/-- An axis mask (1) and a device flag (1). -/
def formDiscardCal : List Byte → Option (AxisSet × Bool)
  | [m, d] =>
    match axisSetOfMask m, flagOfCode d.toNat with
    | some x, some y => some (x, y)
    | _, _ => none
  | _ => none

/-- An axis (1) and a joint value (4). -/
def formCaptureZero : List Byte → Option (Axis × Int)
  | [a, b3, b2, b1, b0] => (axisOfNumber a.toNat).map fun x => (x, intOfBytes [b3, b2, b1, b0])
  | _ => none

/-- An axis (1) and a point (1), 1 or 2, tested with the form (R65): true for point 1. -/
def formCaptureCoarse : List Byte → Option (Axis × Bool)
  | [a, k] => if k.toNat = 1 ∨ k.toNat = 2 then (axisOfNumber a.toNat).map fun x => (x, decide (k.toNat = 1)) else none
  | _ => none

/-- A set (1), a recipe index (1) and a position (1). -/
def formReadStep : List Byte → Option (SetName × Nat × Nat)
  | [k, r, p] => (setOfCode k.toNat).map fun x => (x, r.toNat, p.toNat)
  | _ => none

/-- A recipe index (1), a position (1) and the ten bytes of a step record. -/
def formSetStep : List Byte → Option (Nat × Nat × List Byte)
  | r :: p :: rest => if rest.length = 10 then some (r.toNat, p.toNat, rest) else none
  | _ => none

/-- A recipe index (1). -/
def formRecipe : List Byte → Option Nat
  | [r] => some r.toNat
  | _ => none

/-- An axis mask (1) and a cause mask (2). -/
def formSubscribe : List Byte → Option (AxisSet × CauseSet)
  | [m, hi, lo] =>
    match axisSetOfMask m, causeSetOfMask (hi.toNat * 256 + lo.toNat) with
    | some x, some y => some (x, y)
    | _, _ => none
  | _ => none

/-- The ids of runs and orders that a request may name: 1 to 255. -/
def idOk (n : Nat) : Bool := decide (1 ≤ n ∧ n ≤ 255)

end Sys2Proof.Machine
end

