-- ==== Sys2Proof/Machine/CalFields.lean ====
section
/-! DEFINITION. The fields of a calibration set (3.2): ranges, defaults, rows and image of the calibration region (R62, R196). -/
namespace Sys2Proof.Machine

/-- Counts per turn of a motor sensor: 2 raised to the fine width (00_scope, R29). -/
def SensorProfile.cpt (p : SensorProfile) : Nat := 2 ^ p.fineWidth

/-- Counts per turn of an axis (R1). -/
def AxisCal.cpt (c : AxisCal) : Nat := c.profile.cpt

/-- The largest joint unit value and other signed 32-bit field values: 2147483647 (3.2). -/
def maxSigned : Int := 2147483647

/-- −2147483647 to +2147483647: the range of joint values and of signed fields (R47, 3.2). -/
def inSignedRange (v : Int) : Bool := decide (-maxSigned ≤ v ∧ v ≤ maxSigned)

/-- The per-axis fields, in the rows of the calibration region (R196). -/
inductive AxisField where
  | startGap | fineWidth | statusWidth | refCount | scale | homePosition | couplingSource | couplingScale
  | coarsePresent | coarseRef | coarseHome | coarseGain | coarseTolerance | emptyWindow | loadedWindow | movingExtra
  | emptyMax | loadedMax | contactMargin | contactCount | rampIgnore | switchFilter | restBand | homingSpeed
  | moveTimeout | loadDelay | recipeIndex | softLow | softHigh
deriving DecidableEq, Repr

/-- The device-wide fields, in the rows of the calibration region (R196). -/
inductive DeviceField where
  | parkTime | permitTimeout | acceptTimeout | stopTimeout
deriving DecidableEq, Repr

/-- Rows 1 to 29 in order (R196). -/
def axisFields : List AxisField :=
  [.startGap, .fineWidth, .statusWidth, .refCount, .scale, .homePosition, .couplingSource, .couplingScale, .coarsePresent,
   .coarseRef, .coarseHome, .coarseGain, .coarseTolerance, .emptyWindow, .loadedWindow, .movingExtra, .emptyMax, .loadedMax,
   .contactMargin, .contactCount, .rampIgnore, .switchFilter, .restBand, .homingSpeed, .moveTimeout, .loadDelay,
   .recipeIndex, .softLow, .softHigh]

/-- Rows 1 to 4 in order (R196). -/
def deviceFields : List DeviceField := [.parkTime, .permitTimeout, .acceptTimeout, .stopTimeout]

/-- The per-axis field of a field number of SET_CAL: its row, 1 to 29 (R193). -/
def axisFieldOfRow (n : Nat) : Option AxisField := if n = 0 then none else axisFields[n - 1]?

/-- The device-wide field of a field number of SET_CAL: its row, 1 to 4 (R193). -/
def deviceFieldOfRow (n : Nat) : Option DeviceField := if n = 0 then none else deviceFields[n - 1]?

/-- A coupling source as a number: 0 is none (R192). -/
def couplingNumber : Option Axis → Int
  | none => 0
  | some a => (axisNumber a : Int)

/-- The value of a per-axis field, in the unit of 3.2 (R52). -/
def AxisCal.value (c : AxisCal) : AxisField → Int
  | .startGap => c.profile.startGap
  | .fineWidth => c.profile.fineWidth
  | .statusWidth => c.profile.statusWidth
  | .refCount => c.refCount
  | .scale => c.scale
  | .homePosition => c.homePosition
  | .couplingSource => couplingNumber c.couplingSource
  | .couplingScale => c.couplingScale
  | .coarsePresent => c.coarsePresent.toNat
  | .coarseRef => c.coarseRef
  | .coarseHome => c.coarseHome
  | .coarseGain => c.coarseGain
  | .coarseTolerance => c.coarseTolerance
  | .emptyWindow => c.emptyWindow
  | .loadedWindow => c.loadedWindow
  | .movingExtra => c.movingExtra
  | .emptyMax => c.emptyMax
  | .loadedMax => c.loadedMax
  | .contactMargin => c.contactMargin
  | .contactCount => c.contactCount
  | .rampIgnore => c.rampIgnore
  | .switchFilter => c.switchFilter
  | .restBand => c.restBand
  | .homingSpeed => c.homingSpeed
  | .moveTimeout => c.moveTimeout
  | .loadDelay => c.loadDelay
  | .recipeIndex => c.recipeIndex
  | .softLow => c.softLow
  | .softHigh => c.softHigh

/-- The set with one per-axis field written. A coarse-present byte of a loaded image other than 0 is read as yes, and a coupling
source above 6 as none (the model's choice, log 23). -/
def AxisCal.withField (c : AxisCal) (f : AxisField) (v : Int) : AxisCal :=
  match f with
  | .startGap => { c with profile := { c.profile with startGap := v.toNat } }
  | .fineWidth => { c with profile := { c.profile with fineWidth := v.toNat } }
  | .statusWidth => { c with profile := { c.profile with statusWidth := v.toNat } }
  | .refCount => { c with refCount := v.toNat }
  | .scale => { c with scale := v }
  | .homePosition => { c with homePosition := v }
  | .couplingSource => { c with couplingSource := axisOfNumber v.toNat }
  | .couplingScale => { c with couplingScale := v }
  | .coarsePresent => { c with coarsePresent := decide (v ≠ 0) }
  | .coarseRef => { c with coarseRef := v.toNat }
  | .coarseHome => { c with coarseHome := v }
  | .coarseGain => { c with coarseGain := v }
  | .coarseTolerance => { c with coarseTolerance := v.toNat }
  | .emptyWindow => { c with emptyWindow := v.toNat }
  | .loadedWindow => { c with loadedWindow := v.toNat }
  | .movingExtra => { c with movingExtra := v.toNat }
  | .emptyMax => { c with emptyMax := v.toNat }
  | .loadedMax => { c with loadedMax := v.toNat }
  | .contactMargin => { c with contactMargin := v.toNat }
  | .contactCount => { c with contactCount := v.toNat }
  | .rampIgnore => { c with rampIgnore := v.toNat }
  | .switchFilter => { c with switchFilter := v.toNat }
  | .restBand => { c with restBand := v.toNat }
  | .homingSpeed => { c with homingSpeed := v.toNat }
  | .moveTimeout => { c with moveTimeout := v.toNat }
  | .loadDelay => { c with loadDelay := v.toNat }
  | .recipeIndex => { c with recipeIndex := v.toNat }
  | .softLow => { c with softLow := v }
  | .softHigh => { c with softHigh := v }

/-- A closed range. -/
def between (lo hi v : Int) : Bool := decide (lo ≤ v ∧ v ≤ hi)

/-- The range of a per-axis field (3.2). The range of R is 0 to 16777215 here (R52): cpt is checked at commit. -/
def AxisField.inRange (f : AxisField) (v : Int) : Bool :=
  match f with
  | .startGap => between 0 7 v
  | .fineWidth => between 12 24 v
  | .statusWidth => between 0 4 v
  | .refCount => between 0 16777215 v
  | .scale => inSignedRange v && decide (v ≠ 0)
  | .homePosition => inSignedRange v
  | .couplingSource => between 0 6 v
  | .couplingScale => inSignedRange v
  | .coarsePresent => between 0 1 v
  | .coarseRef => between 0 4095 v
  | .coarseHome => inSignedRange v
  | .coarseGain => inSignedRange v
  | .coarseTolerance => between 0 16777215 v
  | .emptyWindow => between 0 8388607 v
  | .loadedWindow => between 0 8388607 v
  | .movingExtra => between 0 8388607 v
  | .emptyMax => between 0 32767 v
  | .loadedMax => between 0 32767 v
  | .contactMargin => between 0 32767 v
  | .contactCount => between 1 15 v
  | .rampIgnore => between 0 255 v
  | .switchFilter => between 0 15 v
  | .restBand => between 0 65535 v
  | .homingSpeed => between 1 65535 v
  | .moveTimeout => between 100 60000 v
  | .loadDelay => between 10 2550 v && decide (v % 10 = 0)
  | .recipeIndex => between 0 15 v
  | .softLow => inSignedRange v
  | .softHigh => inSignedRange v

/-- The bytes that a per-axis field takes in the calibration region (R196). -/
def AxisField.bytes : AxisField → Nat
  | .startGap => 1
  | .fineWidth => 1
  | .statusWidth => 1
  | .refCount => 3
  | .scale => 4
  | .homePosition => 4
  | .couplingSource => 1
  | .couplingScale => 4
  | .coarsePresent => 1
  | .coarseRef => 2
  | .coarseHome => 4
  | .coarseGain => 4
  | .coarseTolerance => 3
  | .emptyWindow => 3
  | .loadedWindow => 3
  | .movingExtra => 3
  | .emptyMax => 2
  | .loadedMax => 2
  | .contactMargin => 2
  | .contactCount => 1
  | .rampIgnore => 1
  | .switchFilter => 1
  | .restBand => 2
  | .homingSpeed => 2
  | .moveTimeout => 2
  | .loadDelay => 1
  | .recipeIndex => 1
  | .softLow => 4
  | .softHigh => 4

/-- Whether a field is signed in the calibration region (R196). -/
def AxisField.signed : AxisField → Bool
  | .scale | .homePosition | .couplingScale | .coarseHome | .coarseGain | .softLow | .softHigh => true
  | _ => false

/-- The unit of a field in the calibration region: load_delay is stored in units of 10 ms (R196). -/
def AxisField.unit : AxisField → Int
  | .loadDelay => 10
  | _ => 1

/-- The value of a device-wide field (3.2). -/
def DeviceCal.value (d : DeviceCal) : DeviceField → Int
  | .parkTime => d.parkTime
  | .permitTimeout => d.permitTimeout
  | .acceptTimeout => d.acceptTimeout
  | .stopTimeout => d.stopTimeout

/-- The set with one device-wide field written. -/
def DeviceCal.withField (d : DeviceCal) (f : DeviceField) (v : Int) : DeviceCal :=
  match f with
  | .parkTime => { d with parkTime := v.toNat }
  | .permitTimeout => { d with permitTimeout := v.toNat }
  | .acceptTimeout => { d with acceptTimeout := v.toNat }
  | .stopTimeout => { d with stopTimeout := v.toNat }

/-- The range of a device-wide field (3.2). -/
def DeviceField.inRange (f : DeviceField) (v : Int) : Bool :=
  match f with
  | .parkTime => between 100 10000 v
  | .permitTimeout => between 1 60 v
  | .acceptTimeout => between 50 2000 v
  | .stopTimeout => between 100 5000 v

/-- The bytes that a device-wide field takes in the calibration region (R196). -/
def DeviceField.bytes : DeviceField → Nat
  | .permitTimeout => 1
  | _ => 2

/-- The default fields of an axis (3.2). -/
def defaultAxisCal : AxisCal :=
  { profile := { startGap := 0, fineWidth := 16, statusWidth := 0 }
    refCount := 0, scale := 16777216, homePosition := 0, couplingSource := none, couplingScale := 0
    coarsePresent := false, coarseRef := 0, coarseHome := 0, coarseGain := 0, coarseTolerance := 0
    emptyWindow := 32, loadedWindow := 128, movingExtra := 256, emptyMax := 50, loadedMax := 400
    contactMargin := 100, contactCount := 4, rampIgnore := 100, switchFilter := 3, restBand := 16
    homingSpeed := 256, moveTimeout := 10000, loadDelay := 200, recipeIndex := 0
    softLow := -2147483647, softHigh := 2147483647 }

/-- The default device-wide fields (3.2). -/
def defaultDeviceCal : DeviceCal :=
  { parkTime := 500, permitTimeout := 5, acceptTimeout := 200, stopTimeout := 500 }

/-- The default calibration set (3.2). -/
def defaultCalSet : CalSet := { axes := PerAxis.const defaultAxisCal, device := defaultDeviceCal }

/-! ### The image (R62, R196) -/

/-- The 67 bytes of one axis. -/
def AxisCal.image (c : AxisCal) : List Byte :=
  axisFields.flatMap fun f => beInt f.bytes (c.value f / f.unit)

/-- The 7 device-wide bytes. -/
def DeviceCal.image (d : DeviceCal) : List Byte :=
  deviceFields.flatMap fun f => beInt f.bytes (d.value f)

/-- The 409 bytes of a set: axes 1 to 6, then the device-wide fields. -/
def CalSet.image (c : CalSet) : List Byte :=
  c.axes.toList.flatMap AxisCal.image ++ c.device.image

/-- The fingerprint of a set (R62). -/
def CalSet.fingerprint (c : CalSet) : BitVec 32 := crc32 c.image

/-- The bytes that a calibration write carries: format version, image and CRC-32 (R63, R196; the version first, log 18). Cut after bytes
that equal those the region held, a write leaves the region as it was, and its check passes or fails by its bytes (R66; the model's reading
against R63 and R144, log 45). -/
def CalSet.region (c : CalSet) : List Byte :=
  byte 1 :: (c.image ++ be 4 c.fingerprint.toNat)

/-- Reads fields in row order from bytes. -/
def readAxisFields : List AxisField → List Byte → AxisCal → AxisCal
  | [], _, c => c
  | f :: fs, bs, c =>
    let raw := bs.take f.bytes
    let v : Int := if f.signed then intOfBytes raw else (natOfBytes raw : Int)
    readAxisFields fs (bs.drop f.bytes) (c.withField f (v * f.unit))

/-- Reads device-wide fields in row order from bytes. -/
def readDeviceFields : List DeviceField → List Byte → DeviceCal → DeviceCal
  | [], _, d => d
  | f :: fs, bs, d => readDeviceFields fs (bs.drop f.bytes) (d.withField f (natOfBytes (bs.take f.bytes) : Nat))

/-- The set that an image of 409 bytes gives, taken as written (R66; codes outside their type: log 23). -/
def calSetOfImage (bs : List Byte) : CalSet :=
  { axes := PerAxis.of fun a =>
      readAxisFields axisFields (slice bs (67 * (axisNumber a - 1)) 67) defaultAxisCal
    device := readDeviceFields deviceFields (bs.drop 402) defaultDeviceCal }

/-! ### What a commit changes (3.2, R22, R11) -/

/-- The fields whose change removes a frame: sensor profile, scale and R (R22). -/
def AxisCal.removesFrame (old new : AxisCal) : Bool :=
  decide (old.profile ≠ new.profile) || decide (old.scale ≠ new.scale) || decide (old.refCount ≠ new.refCount)

/-- The fields whose change replaces a frame: home_position, coupling source and cscale (R22). -/
def AxisCal.replacesFrame (old new : AxisCal) : Bool :=
  decide (old.homePosition ≠ new.homePosition) || decide (old.couplingSource ≠ new.couplingSource)
    || decide (old.couplingScale ≠ new.couplingScale)

/-- A frame-defining field differs (3.2). -/
def AxisCal.definesFrame (old new : AxisCal) : Bool := old.removesFrame new || old.replacesFrame new

/-- A coarse field differs (R11). -/
def AxisCal.changesCoarse (old new : AxisCal) : Bool :=
  decide (old.coarsePresent ≠ new.coarsePresent) || decide (old.coarseRef ≠ new.coarseRef)
    || decide (old.coarseHome ≠ new.coarseHome) || decide (old.coarseGain ≠ new.coarseGain)
    || decide (old.coarseTolerance ≠ new.coarseTolerance)

/-! ### Validation of a resulting set (R56) -/

/-- Follows coupling sources from an axis for at most `n` links and says whether they return to `home`. -/
def couplingReturns (set : CalSet) (home : Axis) : Nat → Axis → Bool
  | 0, _ => false
  | n + 1, a =>
    match (set.axes.get a).couplingSource with
    | none => false
    | some b => decide (b = home) || couplingReturns set home n b

/-- The checks of R56 on one axis, in the order of its list: the number of the first that fails. -/
def axisCheck (set : CalSet) (recipeLength : Nat → Nat) (a : Axis) : Option Nat :=
  let c := set.axes.get a
  if ¬ (axisFields.all fun f => f.inRange (c.value f)) then some 1
  else if ¬ (c.refCount < c.cpt) then some 2
  else if c.scale = 0 then some 3
  else if c.couplingSource = some a then some 4
  else if couplingReturns set a 6 a then some 5
  else if c.coarsePresent ∧ ¬ (2 * c.coarseTolerance * 2 ^ 24 < c.scale.natAbs * c.cpt) then some 6
  else if ¬ (c.emptyMax < c.loadedMax) then some 7
  else if ¬ (c.softLow < c.softHigh) then some 8
  else if recipeLength c.recipeIndex = 0 then some 9
  else none

/-- The check of R56 on the device-wide fields: their ranges. -/
def deviceCheck (set : CalSet) : Option Nat :=
  if deviceFields.all fun f => f.inRange (set.device.value f) then none else some 1

/-- The first failing part and check of a resulting set: axes 1 to 6, then the device as part 0 (R56, R195, log 17). -/
def firstFailure (set : CalSet) (recipeLength : Nat → Nat) : List Axis → Option (Nat × Nat)
  | [] => (deviceCheck set).map fun k => (0, k)
  | a :: rest =>
    match axisCheck set recipeLength a with
    | some k => some (axisNumber a, k)
    | none => firstFailure set recipeLength rest

/-- The validation of a resulting set (R56). -/
def CalSet.validate (set : CalSet) (recipeLength : Nat → Nat) : Option (Nat × Nat) :=
  firstFailure set recipeLength allAxes

end Sys2Proof.Machine
end

