-- ==== Sys2Proof/Machine/Memory.lean ====
section
/-! DEFINITION. Retention memory (R140): a list of cells in one canonical form, and the places of its four regions (R196). -/
namespace Sys2Proof.Machine

/-- Retention memory: addresses strictly rising, no cell that holds the value of a byte never written. -/
abbrev Memory := List Host.Cell

/-- What a byte that nothing has written reads as. The manual gives no content of retention memory as delivered;
DESIGN CHOICE, unsafe: log 7. -/
def unwritten : Byte := 0x00#8

/-- Reads one byte. -/
def Memory.read : Memory → Nat → Byte
  | [], _ => unwritten
  | (a, v) :: rest, addr => if a = addr then v else Memory.read rest addr

/-- Writes one byte, keeping the canonical form. -/
def Memory.write : Memory → Nat → Byte → Memory
  | [], addr, v => if v = unwritten then [] else [(addr, v)]
  | (a, w) :: rest, addr, v =>
    if addr < a then (if v = unwritten then (a, w) :: rest else (addr, v) :: (a, w) :: rest)
    else if addr = a then (if v = unwritten then rest else (addr, v) :: rest)
    else (a, w) :: Memory.write rest addr v

/-- The addresses above `low`, rising, inside retention memory, and every value other than an unwritten byte's. -/
def Memory.wfFrom : Nat → Memory → Bool
  | _, [] => true
  | low, (a, v) :: rest => decide (low ≤ a) && decide (a < retentionSize) && decide (v ≠ unwritten) && Memory.wfFrom (a + 1) rest

/-- The canonical form. -/
def Memory.wf (m : Memory) : Bool := Memory.wfFrom 0 m

/-- Reads bytes in order from an address. -/
def Memory.readBytes (m : Memory) (addr : Nat) : Nat → List Byte
  | 0 => []
  | n + 1 => Memory.read m addr :: Memory.readBytes m (addr + 1) n

/-- The calibration region begins at 0 (log 8). -/
def calibrationBase : Nat := 0

/-- The recipe region follows the 414 bytes of the calibration region (R196, log 8). -/
def recipeBase : Nat := 414

/-- Slots A and B follow the 1941 bytes of the recipe region, 128 bytes each (R140, R196, log 8). -/
def slotBase : Slot → Nat
  | .a => 2355
  | .b => 2483

/-- An address of retention memory. -/
def retentionAddr (n : Nat) : Fin retentionSize := Fin.ofNat retentionSize n

end Sys2Proof.Machine
end

