-- ==== Sys2Proof/Machine/Recipes.lean ====
section
/-! DEFINITION. Step records: kinds, ranges, codes, and the image of the recipe region (R86, R87, R98, R196). -/
namespace Sys2Proof.Machine

/-- Whether a step asks a move order (R86, column "Motion step"). -/
def StepBody.isMotion : StepBody → Bool
  | .seekSwitch .. | .leaveSwitch .. | .seekIndex .. | .moveBy .. | .loadCheck => true
  | .settle _ | .capture .. | .mark | .verifyCoarse => false

/-- Whether a run of the recipe asks a permit: it holds a motion step, whatever the conditions (R86). -/
def asksPermit (steps : List Step) : Bool := steps.any fun st => st.body.isMotion

/-- Whether a step's condition holds for the run flags (R88). -/
def StepCond.holds (c : StepCond) (l0 l1 : Bool) : Bool :=
  match c with
  | .always => true
  | .ifL0 => l0
  | .ifNotL0 => !l0
  | .ifL1 => l1
  | .ifNotL1 => !l1

/-- 1 to 8 (R86). -/
def speedOk (c : Nat) : Bool := decide (1 ≤ c ∧ c ≤ 8)

/-- 1 to 2147483647 motor counts (R86). -/
def travelOk (t : Nat) : Bool := decide (1 ≤ t ∧ t ≤ 2147483647)

/-- The fields of a step lie within the ranges of R86. -/
def StepBody.inRange : StepBody → Bool
  | .seekSwitch _ c t w | .leaveSwitch _ c t w | .seekIndex _ c t w => speedOk c && travelOk t && decide (w ≤ 60000)
  | .moveBy d c w => decide (d ≠ 0 ∧ -2147483647 ≤ d ∧ d ≤ 2147483647) && speedOk c && decide (w ≤ 60000)
  | .settle w => decide (1 ≤ w ∧ w ≤ 60000)
  | .loadCheck | .capture .. | .mark | .verifyCoarse => true

/-! ### Codes (R192, R196) -/

/-- ALWAYS 0 to IF_NOT_L1 4. -/
def StepCond.code : StepCond → Nat
  | .always => 0
  | .ifL0 => 1
  | .ifNotL0 => 2
  | .ifL1 => 3
  | .ifNotL1 => 4

/-- The step condition of a code. -/
def stepCondOfCode : Nat → Option StepCond
  | 0 => some .always
  | 1 => some .ifL0
  | 2 => some .ifNotL0
  | 3 => some .ifL1
  | 4 => some .ifNotL1
  | _ => none

/-- The direction of a code. -/
def directionOfCode : Nat → Option Direction
  | 0 => some .positive
  | 1 => some .negative
  | _ => none

/-- L0 0, L1 1. -/
def RunFlag.code : RunFlag → Nat
  | .l0 => 0
  | .l1 => 1

/-- The run flag of a code. -/
def runFlagOfCode : Nat → Option RunFlag
  | 0 => some .l0
  | 1 => some .l1
  | _ => none

/-- SWITCH_ACTIVE 0 to INDEX_LATCHED 4. -/
def CaptureCond.code : CaptureCond → Nat
  | .switchActive => 0
  | .loadLoaded => 1
  | .loadEmpty => 2
  | .coarseAboveHome => 3
  | .indexLatched => 4

/-- The capture condition of a code. -/
def captureCondOfCode : Nat → Option CaptureCond
  | 0 => some .switchActive
  | 1 => some .loadLoaded
  | 2 => some .loadEmpty
  | 3 => some .coarseAboveHome
  | 4 => some .indexLatched
  | _ => none

/-- Bytes 1 to 9 of a seek step. -/
def seekBytes (kind : Nat) (d : Direction) (c t w : Nat) : List Byte :=
  byte kind :: byte d.code :: byte c :: (be 4 t ++ be 2 w)

/-- Bytes 1 to 9 of a step record (R196). -/
def StepBody.bytes : StepBody → List Byte
  | .seekSwitch d c t w => seekBytes 0 d c t w
  | .leaveSwitch d c t w => seekBytes 1 d c t w
  | .seekIndex d c t w => seekBytes 2 d c t w
  | .moveBy d c w => byte 3 :: byte 0 :: byte c :: (beInt 4 d ++ be 2 w)
  | .loadCheck => byte 4 :: List.replicate 8 (byte 0)
  | .settle w => byte 5 :: (List.replicate 6 (byte 0) ++ be 2 w)
  | .capture f k => byte 6 :: byte f.code :: byte k.code :: List.replicate 6 (byte 0)
  | .mark => byte 7 :: List.replicate 8 (byte 0)
  | .verifyCoarse => byte 8 :: List.replicate 8 (byte 0)

/-- The ten bytes of a step record (R196). -/
def Step.bytes (s : Step) : List Byte := byte s.cond.code :: s.body.bytes

/-- The step body that a kind code and its fields give, where the codes are those of R86 and no field is present that
the kind does not name (R97, R196). Ranges are not checked here. -/
def stepBodyOf (kind b2 b3 w : Nat) (mid : List Byte) : Option StepBody :=
  let long := natOfBytes mid
  match kind with
  | 0 => (directionOfCode b2).map fun d => .seekSwitch d b3 long w
  | 1 => (directionOfCode b2).map fun d => .leaveSwitch d b3 long w
  | 2 => (directionOfCode b2).map fun d => .seekIndex d b3 long w
  | 3 => if b2 = 0 then some (.moveBy (intOfBytes mid) b3 w) else none
  | 4 => if b2 = 0 ∧ b3 = 0 ∧ long = 0 ∧ w = 0 then some .loadCheck else none
  | 5 => if b2 = 0 ∧ b3 = 0 ∧ long = 0 then some (.settle w) else none
  | 6 =>
    if long = 0 ∧ w = 0 then
      match runFlagOfCode b2, captureCondOfCode b3 with
      | some f, some k => some (.capture f k)
      | _, _ => none
    else none
  | 7 => if b2 = 0 ∧ b3 = 0 ∧ long = 0 ∧ w = 0 then some .mark else none
  | 8 => if b2 = 0 ∧ b3 = 0 ∧ long = 0 ∧ w = 0 then some .verifyCoarse else none
  | _ => none

/-- The step record that ten bytes give (R196); none when it is none of the records of R86. -/
def stepOfBytes (bs : List Byte) : Option Step :=
  match bs with
  | c :: k :: b2 :: b3 :: rest =>
    match stepCondOfCode c.toNat,
        stepBodyOf k.toNat b2.toNat b3.toNat (natOfBytes (rest.drop 4)) (rest.take 4) with
    | some cond, some body => some { cond := cond, body := body }
    | _, _ => none
  | _ => none

/-! ### Validation (R98) -/

/-- The first step of a recipe that fails, from a position on: 1 a field out of range, 2 a MARK with no SEEK_INDEX at an
earlier position (R98, R195). -/
def recipeFailure : List Step → Nat → Bool → Option (Nat × Nat)
  | [], _, _ => none
  | st :: rest, pos, seen =>
    if ¬ st.body.inRange then some (pos, 1)
    else if st.body = .mark ∧ ¬ seen then some (pos, 2)
    else
      let isSeek := match st.body with
        | .seekIndex .. => true
        | _ => false
      recipeFailure rest (pos + 1) (seen || isSeek)

/-- The first failing recipe, position and check, recipes in order (R98). -/
def recipesFailure : List (List Step) → Nat → Option (Nat × Nat × Nat)
  | [], _ => none
  | steps :: rest, i =>
    match recipeFailure steps 0 false with
    | some (pos, k) => some (i, pos, k)
    | none => recipesFailure rest (i + 1)

/-! ### The image (R196) -/

/-- Sixteen empty recipes (R85). -/
def emptyRecipes : List (List Step) := List.replicate 16 []

/-- The 121 bytes of a recipe: its length and twelve step records, zeros where there is no step. -/
def recipeImage (steps : List Step) : List Byte :=
  let body := (steps.take 12).flatMap Step.bytes
  byte steps.length :: (body ++ List.replicate (120 - body.length) (byte 0))

/-- The 1936 bytes of sixteen recipes. -/
def recipesImage (rs : List (List Step)) : List Byte := rs.flatMap recipeImage

/-- The bytes that a recipe write carries: format version, image and CRC-32 (R99, R196). Cut after bytes that equal those the region held,
a write leaves the region as it was, and its check passes or fails by its bytes (R100; the model's reading against R99 and R144, log 45). -/
def recipesRegion (rs : List (List Step)) : List Byte :=
  let image := recipesImage rs
  byte 1 :: (image ++ be 4 (crc32 image).toNat)

/-- Reads `n` step records. -/
def stepsOfBytes : Nat → List Byte → Option (List Step)
  | 0, _ => some []
  | n + 1, bs =>
    match stepOfBytes (bs.take 10), stepsOfBytes n (bs.drop 10) with
    | some st, some rest => some (st :: rest)
    | _, _ => none

/-- Reads `n` recipes of 121 bytes. Without a meaning in the manual are a length byte above 12 and an undecodable step record: none is
read (the model's choice, log 23). -/
def recipesOfBytes : Nat → List Byte → Option (List (List Step))
  | 0, _ => some []
  | n + 1, bs =>
    let len := natOfBytes (bs.take 1)
    match (if len ≤ 12 then stepsOfBytes len (slice bs 1 120) else none), recipesOfBytes n (bs.drop 121) with
    | some steps, some rest => some (steps :: rest)
    | _, _ => none

/-- The recipes whose active contents differ, as a mask with bit 0 for recipe 0 (R99, R195). -/
def changedRecipes (old new : List (List Step)) : Nat :=
  maskOf ((List.range 16).map fun i => decide (old.getD i [] ≠ new.getD i []))

end Sys2Proof.Machine
end

