-- ==== Sys2Proof/Machine/State.lean ====
section
/-! DEFINITION. The state of the block, its values after a power-on reset, and the reasons for which a step could stop. -/
namespace Sys2Proof.Machine

/-- The reasons for which the part stops: none. The manual gives every command an effect and names no condition that
stops the part. Nobody raises a fault. -/
inductive Fault where
deriving DecidableEq, Repr

/-- The reasons for which a command has no meaning in this model. -/
inductive Refusal where
  /-- The command has no meaning yet. Raised by an arm of `exec` that is still to be written; no arm is. Safe. -/
  | notModelled (mnemonic : String)
deriving DecidableEq, Repr

/-- The state: every block of the part, its retention memory, its level inputs, the queue of commands, and the model's
own fields `now`, `freeCount`, `outbox`, `parkTestDue`, `outdatedHere`, `outdatedNow` and `pending` (log 27). -/
structure State where
  /-- The supply is present (R144, R156). -/
  supply : Bool
  /-- The external reset input is asserted (R156). -/
  resetInput : Bool
  /-- The part's timebase: µs since the release of the last reset (00_scope "Time", R156). -/
  now : Micros
  /-- The number of free values used so far. -/
  freeCount : Nat
  /-- The Axis Reference Table (R1). -/
  records : PerAxis AxisRecord
  /-- The Sensor Interface, per axis (R27). -/
  sensors : PerAxis SensorState
  /-- The time at which polling began after the last reset (R28). -/
  pollingSince : Option Micros
  /-- The parked condition (R27, R41). -/
  parked : Bool
  /-- The cross-check timer (R27, R44). -/
  crossCheckTimer : Micros
  /-- The Calibration Store (R50). -/
  cal : CalStore
  /-- The Authority Table (R67). -/
  authority : PerAxis AuthEntry
  /-- The Recipe Store (R85). -/
  recipes : RecipeStore
  /-- The run records (R101). -/
  runs : PerAxis (Option Run)
  /-- The settle timers of the runs (R102). -/
  settleTimers : PerAxis Timer
  /-- The last-run entries (R101). -/
  lastRuns : PerAxis (Option (Nat × RunResult))
  /-- The run-id counter (R101). -/
  runIdCounter : Nat
  /-- The Move Channel (R118). -/
  channel : MoveChannel
  /-- The Load Monitor, per axis (R128). -/
  loads : PerAxis LoadState
  /-- The Continuity Unit (R141). -/
  cont : Continuity
  /-- The byte in progress over the retention link (R143). -/
  link : Option LinkByte
  /-- The Recovery Planner (R160). -/
  planner : Planner
  /-- The Port Controllers (R174). -/
  ports : PerPort PortState
  /-- Retention memory (R140). -/
  retention : Memory
  /-- The reportable events of the command in hand, in the order handed on (R189). -/
  outbox : List ReportEvent
  /-- An event of the command in hand calls for the park test (R147). -/
  parkTestDue : Bool
  /-- The axes of the outdating events of the command in hand (R153). -/
  outdatedHere : AxisSet
  /-- The axes of the outdating events of the earlier commands of this µs, which a freeze taken together with them holds pending
  (R148, log 39). -/
  outdatedNow : AxisSet
  /-- The commands that are waiting, first in, first out. -/
  pending : List Instr
deriving DecidableEq, Repr

/-- An axis record after reset (R13). -/
def resetRecord : AxisRecord :=
  { state := .restoring, origin := .none, lossCause := .powerReset, turn := 0, fine := 0, epoch := 0
    loadClass := .unknown, atRest := false, brakeApplied := false, beyondLimit := false, movingSinceCapture := false
    sticky := ⟨false, false, false, false⟩, disagreements := 0, runId := none, position := none }

/-- The Sensor Interface's state of one axis after reset (R27); the switch level until its first sample is the model's choice
(log 10). -/
def resetSensor : SensorState :=
  { readStatus := .starting, failedReads := 0, restAnchor := none, restStart := none, indexWatch := .off
    switchLevel := .inactive, switchSampled := false, switchCandidate := none, brakeLevel := none, previousBrake := none
    coarseWindow := [], coarseAverage := none, profileChangedAt := none }

/-- The Calibration Store from a reset until its start-up load completes (R50). -/
def resetCal : CalStore :=
  { active := defaultCalSet, staging := defaultCalSet, axisEditor := PerAxis.const none, deviceEditor := none
    points := PerAxis.const ⟨none, none⟩, validity := .invalid, fingerprint := defaultCalSet.fingerprint
    write := .none, loaded := false }

/-- An entry of the Authority Table after reset (R67). -/
def resetAuth : AuthEntry :=
  { claim := none, inhibited := true, permit := .none, permitRun := none, permitTimer := none }

/-- The Recipe Store from a reset until its start-up load completes (R85; log 30). -/
def resetRecipes : RecipeStore :=
  { active := emptyRecipes, staging := emptyRecipes, validity := .invalid, write := .none, loaded := false }

/-- The Move Channel after reset (R118). -/
def resetChannel : MoveChannel :=
  { slot := .empty, order := none, detached := false, queue := [], orderIdCounter := 1
    acceptTimer := none, stepTimer := none, stopTimer := none }

/-- The Load Monitor's state of one axis after reset (R128). -/
def resetLoad : LoadState :=
  { window := [], classTimer := none, liveOrder := none, contactValues := none, sampleTimer := none
    watch := .off, ignoreTimer := none, contactWindow := [], exceed := 0 }

/-- A directory record before the end of STARTUP fills it (R142, log 21). -/
def resetDirEntry : DirEntry :=
  { state := .empty, sequence := 0, reason := 0, fingerprint := 0, marks := PerAxis.const false, passed := false
    entries := PerAxis.const ⟨0, 0, 0, 0, 0, 0, 0, 0⟩ }

/-- The Continuity Unit after reset, with the PFW level taken from the input (R141). -/
def resetCont (pfw : Bool) : Continuity :=
  { phase := .startup, pfw := pfw, slotA := resetDirEntry, slotB := resetDirEntry, newest := none, capture := none
    pendingMarks := PerAxis.const false, owed := false, park := .notParked, parkTimer := none
    waitingSlotWrites := [], waitingMarks := [] }

/-- A recovery record after reset (R160). -/
def resetOutcome : RecoveryRecord :=
  { outcome := .pending, reason := none, path := none, delta := none, window := none, turn := none, source := none }

/-- The Recovery Planner after reset (R160). -/
def resetPlanner : Planner :=
  { verdictA := none, verdictB := none, source := none, entries := none, worklist := [], sensorWait := .stopped
    firstFine := PerAxis.const none, disturbed := PerAxis.const false, outcomes := PerAxis.const resetOutcome }

/-- All nine causes (R186). -/
def allCauses : CauseSet := ⟨true, true, true, true, true, true, true, true, true⟩

/-- No cause. -/
def noCauses : CauseSet := ⟨false, false, false, false, false, false, false, false, false⟩

/-- A Port Controller after reset (R174). -/
def resetPort : PortState :=
  { held := none, frameErrors := 0, axisMask := PerAxis.const true, causeMask := allCauses, queue := [], alert := false
    gathered := [] }

/-- The cross-check period: 64 ms (R44). -/
def crossCheckPeriod : Micros := 64000

/-- The machine right after a power-on reset with the power-fail warning and the external reset deasserted (log 9) and
retention memory never written (log 7). -/
def State.reset : State :=
  { supply := true, resetInput := false, now := 0, freeCount := 0
    records := PerAxis.const resetRecord, sensors := PerAxis.const resetSensor, pollingSince := none, parked := false
    crossCheckTimer := crossCheckPeriod, cal := resetCal, authority := PerAxis.const resetAuth, recipes := resetRecipes
    runs := PerAxis.const none, settleTimers := PerAxis.const none, lastRuns := PerAxis.const none, runIdCounter := 1
    channel := resetChannel, loads := PerAxis.const resetLoad, cont := resetCont false, link := none
    planner := resetPlanner, ports := ⟨resetPort, resetPort, resetPort⟩, retention := []
    outbox := [], parkTestDue := false, outdatedHere := PerAxis.const false, outdatedNow := PerAxis.const false, pending := [] }

end Sys2Proof.Machine
end

