-- ==== Sys2Proof/Machine/Joint.lean ====
section
/-! DEFINITION. The Joint Arithmetic Unit: exact conversions rounded to nearest with ties to even (R46 to R48, R167). -/
namespace Sys2Proof.Machine

/-- The whole number nearest to `num / den` for a positive `den`, a tie going to the even one (R46). -/
def roundHalfEven (num den : Int) : Int :=
  let q := num.fdiv den
  let r := num - q * den
  if 2 * r < den then q
  else if den < 2 * r then q + 1
  else if q % 2 = 0 then q else q + 1

/-- The whole number nearest to `num / den` for a `den` of either sign. -/
def roundQuot (num den : Int) : Int := if den < 0 then roundHalfEven (-num) (-den) else roundHalfEven num den

/-- A difference of fine angles brought into −cpt/2 exclusive to +cpt/2 inclusive by one addition or subtraction of cpt (R33, R165). -/
def bringIntoTurn (d : Int) (cpt : Nat) : Int :=
  if (cpt : Int) < 2 * d then d - cpt else if 2 * d ≤ -(cpt : Int) then d + cpt else d

/-- Turn multiplied by cpt, plus fine (R2). -/
def motorCount (turn : Int) (fine cpt : Nat) : Int := turn * (cpt : Int) + (fine : Int)

/-- The turn range (R2). -/
def turnInRange (t : Int) : Bool := decide (-32767 ≤ t ∧ t ≤ 32767)

/-- What a conversion returns (R47): a joint value, or out of range with the sign of the excess. -/
inductive JointValue where
  | value (v : Int)
  | outOfRange (above : Bool)
deriving DecidableEq, Repr

/-- The range check on the final joint value (R47). -/
def checkJoint (v : Int) : JointValue :=
  if inSignedRange v then .value v else .outOfRange (decide (0 < v))

/-- The active calibration of an axis. -/
def State.calOf (s : State) (a : Axis) : AxisCal := s.cal.active.axes.get a

/-- Counts per turn of an axis in the active set (R1). -/
def State.cpt (s : State) (a : Axis) : Nat := (s.calOf a).cpt

/-- The motor count of an axis (R2). -/
def State.count (s : State) (a : Axis) : Int :=
  motorCount (s.records.get a).turn (s.records.get a).fine (s.cpt a)

/-- The coupling term cscale × (src_mc − src_R), 0 for an axis with no coupling source (R46). -/
def State.couplingTerm (s : State) (a : Axis) : Int :=
  match (s.calOf a).couplingSource with
  | none => 0
  | some b => (s.calOf a).couplingScale * (s.count b - ((s.calOf b).refCount : Int))

/-- The joint value of a motor count of an axis before the range check (R46). -/
def State.jointExact (s : State) (a : Axis) (mc : Int) : Int :=
  let c := s.calOf a
  c.homePosition + roundHalfEven (c.scale * (mc - (c.refCount : Int)) + s.couplingTerm a) (2 ^ 24)

/-- The joint conversion (R46, R47). -/
def State.joint (s : State) (a : Axis) (mc : Int) : JointValue := checkJoint (s.jointExact a mc)

/-- The coarse conversion of a code (R48). -/
def coarseConvert (c : AxisCal) (code : Nat) : Int :=
  c.coarseHome + roundHalfEven (c.coarseGain * ((code : Int) - (c.coarseRef : Int))) (2 ^ 16)

/-- The coarse joint value of an axis, absent without a coarse average or a coarse sensor (R43). -/
def State.coarseJoint (s : State) (a : Axis) : Option Int :=
  if (s.calOf a).coarsePresent then (s.sensors.get a).coarseAverage.map (coarseConvert (s.calOf a)) else none

/-- A joint value lies within T of the coarse joint value; out of range or absent counts as a disagreement (R47, R95, R166, R167). -/
def State.agreesWithCoarse (s : State) (a : Axis) (j : JointValue) : Bool :=
  match j, s.coarseJoint a with
  | .value v, some k => decide ((v - k).natAbs ≤ (s.calOf a).coarseTolerance)
  | _, _ => false

/-- The framed states (R1). -/
def AxisState.framed : AxisState → Bool
  | .provisional | .referenced | .suspect => true
  | .unreferenced | .restoring | .homing => false

/-- The coupling source of an axis, where it has one, is in a framed state (R4). -/
def State.sourceFramed (s : State) (a : Axis) : Bool :=
  match (s.calOf a).couplingSource with
  | none => true
  | some b => (s.records.get b).state.framed

/-- The turn nearest to the one the coarse sensor indicates (R167). -/
def State.coarseTurn (s : State) (a : Axis) (coarse : Int) : Int :=
  let c := s.calOf a
  let f : Int := ((s.records.get a).fine : Int)
  roundQuot (((c.refCount : Int) - f) * c.scale + ((coarse - c.homePosition) * 2 ^ 24 - s.couplingTerm a))
    (c.scale * (c.cpt : Int))

end Sys2Proof.Machine
end

