-- ==== Sys2Proof/Machine/Ops.lean ====
section
/-! DEFINITION. The named operations over the state: accessors and updates of one axis or one block, the outbox of
reportable events, responses, and the guard that keeps a part without supply or held in reset from acting. -/
namespace Sys2Proof.Machine

/-! ### Accessors and updates -/

/-- The record of an axis. -/
def State.record (s : State) (a : Axis) : AxisRecord := s.records.get a

/-- Replaces the record of an axis. -/
def State.setRecord (s : State) (a : Axis) (r : AxisRecord) : State := { s with records := s.records.set a r }

/-- The Sensor Interface's state of an axis. -/
def State.sensor (s : State) (a : Axis) : SensorState := s.sensors.get a

/-- Replaces the Sensor Interface's state of an axis. -/
def State.setSensor (s : State) (a : Axis) (x : SensorState) : State := { s with sensors := s.sensors.set a x }

/-- The Load Monitor's state of an axis. -/
def State.load (s : State) (a : Axis) : LoadState := s.loads.get a

/-- Replaces the Load Monitor's state of an axis. -/
def State.setLoad (s : State) (a : Axis) (x : LoadState) : State := { s with loads := s.loads.set a x }

/-- The Authority Table's entry of an axis. -/
def State.auth (s : State) (a : Axis) : AuthEntry := s.authority.get a

/-- Replaces the Authority Table's entry of an axis. -/
def State.setAuth (s : State) (a : Axis) (x : AuthEntry) : State := { s with authority := s.authority.set a x }

/-- The run record of an axis. -/
def State.run (s : State) (a : Axis) : Option Run := s.runs.get a

/-- Replaces the run record of an axis. -/
def State.setRun (s : State) (a : Axis) (x : Option Run) : State := { s with runs := s.runs.set a x }

/-- Replaces the settle timer of an axis's run. -/
def State.setSettle (s : State) (a : Axis) (t : Timer) : State := { s with settleTimers := s.settleTimers.set a t }

/-- Replaces the last-run entry of an axis. -/
def State.setLastRun (s : State) (a : Axis) (x : Nat × RunResult) : State := { s with lastRuns := s.lastRuns.set a (some x) }

/-- Replaces the Move Channel. -/
def State.setChannel (s : State) (c : MoveChannel) : State := { s with channel := c }

/-- Replaces the Continuity Unit. -/
def State.setCont (s : State) (c : Continuity) : State := { s with cont := c }

/-- Replaces the Recovery Planner. -/
def State.setPlanner (s : State) (p : Planner) : State := { s with planner := p }

/-- Replaces the Calibration Store. -/
def State.setCal (s : State) (c : CalStore) : State := { s with cal := c }

/-- Replaces the Recipe Store. -/
def State.setRecipes (s : State) (r : RecipeStore) : State := { s with recipes := r }

/-- Replaces the byte in progress over the retention link. -/
def State.setLink (s : State) (l : Option LinkByte) : State := { s with link := l }

/-- The Port Controller of a port. -/
def State.port (s : State) (p : Port) : PortState := s.ports.get p

/-- Replaces the Port Controller of a port. -/
def State.setPort (s : State) (p : Port) (x : PortState) : State := { s with ports := s.ports.set p x }

/-- The next value of a counter from 1 to 255 that passes from 255 to 1 (R101, R118). -/
def nextId (n : Nat) : Nat := if n < 255 then n + 1 else 1

/-- Milliseconds in µs. -/
def ms (n : Nat) : Micros := n * 1000

/-- Seconds in µs. -/
def sec (n : Nat) : Micros := n * 1000000

/-! ### Authority (R68) -/

/-- The effective authority of an axis: its claim, or the Cell Port (R68). -/
def State.authorityOf (s : State) (a : Axis) : Claimant := (s.auth a).claim.getD .cell

/-- The sender as a port that can hold authority; the Safety Port cannot (R67). -/
def claimantOf : Port → Option Claimant
  | .motion => some .motion
  | .safety => none
  | .cell => some .cell

/-! ### Reportable events and the park test -/

/-- Hands a reportable event to the Port Controllers (R188); it is delivered with the others of its command (R189). -/
def State.emit (s : State) (e : ReportEvent) : State := { s with outbox := s.outbox ++ [e] }

/-- Notes that the park test is to be made (R147, log 12). -/
def State.wantParkTest (s : State) : State := { s with parkTestDue := true }

/-- Notes an outdating event on an axis in the command in hand (R148, R153). -/
def State.noteOutdated (s : State) (a : Axis) : State := { s with outdatedHere := s.outdatedHere.set a true }

/-- The phases in which ACK_WANTED is handed on: RUNNING and HOLDUP (R26). -/
def State.asksAck (s : State) : Bool :=
  match s.cont.phase with
  | .running | .holdup => true
  | .startup | .restoring => false

/-! ### Requests -/

/-- Forms a response, which becomes the port's held response (R176, R178). -/
def State.answer (s : State) (p : Port) (tag : Byte) (code : ResultCode) (payload : List Byte) : State :=
  s.setPort p { s.port p with held := some { tag := tag, code := code, payload := payload } }

/-- The part acts: it has supply and is not held in reset (R144, R156). -/
def State.acting (s : State) : Bool := s.supply && !s.resetInput

/-- The outcome of a command that the part takes only while it acts; otherwise nothing changes (R156, log 3). -/
def whenActing (f : State → State) (s : State) : Host.Outcome State Fault Refusal :=
  .next (if s.acting then f s else s)

end Sys2Proof.Machine
end

