-- ==== Sys2Proof/Machine/Outdating.lean ====
section
/-! DEFINITION. Snapshot entries, the slot directory, slip windows and outdated marks (R139, R142, R148, R152, R153, R196, R197). -/
namespace Sys2Proof.Machine

/-! ### Snapshot entries (R196, R197) -/

/-- The entry that a freeze takes from a record (R148): moving at capture is "yes" when AT_REST is clear. -/
def AxisRecord.entry (r : AxisRecord) : SnapEntry :=
  { stateCode := byte r.state.code, turn := r.turn, fine := r.fine, originCode := byte r.origin.code, epoch := r.epoch
    loadCode := byte r.loadClass.code, movingCode := flagByte (!r.atRest), stickyCode := byte r.sticky.toMask }

/-- The twelve bytes of an entry (R196). -/
def SnapEntry.bytes (e : SnapEntry) : List Byte :=
  [e.stateCode] ++ beInt 2 e.turn ++ be 3 e.fine ++ [e.originCode] ++ be 2 e.epoch.toNat
    ++ [e.loadCode, e.movingCode, e.stickyCode]

/-- The entry that twelve bytes give (R196). -/
def snapEntryOfBytes (bs : List Byte) : SnapEntry :=
  { stateCode := bs.getD 0 0, turn := intOfBytes (slice bs 1 2), fine := natOfBytes (slice bs 3 3)
    originCode := bs.getD 6 0, epoch := BitVec.ofNat 16 (natOfBytes (slice bs 7 2))
    loadCode := bs.getD 9 0, movingCode := bs.getD 10 0, stickyCode := bs.getD 11 0 }

/-- The captured state; none for a code above 5 (R197). -/
def SnapEntry.state (e : SnapEntry) : Option AxisState := axisStateOfCode e.stateCode.toNat

/-- The captured load class (R197). -/
def SnapEntry.load (e : SnapEntry) : LoadClass := loadClassOfCode e.loadCode.toNat

/-- Moving at capture (R197). -/
def SnapEntry.moving (e : SnapEntry) : Bool := decide (e.movingCode ≠ 0)

/-- The motor count of an entry (R152). -/
def SnapEntry.count (e : SnapEntry) (cpt : Nat) : Int := motorCount e.turn e.fine cpt

/-- The restorable class of states: PROVISIONAL and REFERENCED (R147, R165). -/
def restorable : Option AxisState → Bool
  | some .provisional | some .referenced => true
  | _ => false

/-- The slip window of an entry with the fields of the active set; none for OVERLOAD (R139). -/
def slipWindow (c : AxisCal) (e : SnapEntry) : Option Nat :=
  let extra := if e.moving then c.movingExtra else 0
  match e.load with
  | .empty => some (c.emptyWindow + extra)
  | .loaded | .unknown => some (c.loadedWindow + extra)
  | .overload => none

/-! ### The directory (R142) -/

/-- The directory record of a slot. -/
def Continuity.slot (c : Continuity) : Slot → DirEntry
  | .a => c.slotA
  | .b => c.slotB

/-- Replaces the directory record of a slot. -/
def Continuity.setSlot (c : Continuity) (sl : Slot) (d : DirEntry) : Continuity :=
  match sl with
  | .a => { c with slotA := d }
  | .b => { c with slotB := d }

/-- The other of the two slots. -/
def Slot.other : Slot → Slot
  | .a => .b
  | .b => .a

/-- The reference entry of an axis: in the capture buffer while a capture is in flight, otherwise in the newest slot (R152). -/
def Continuity.referenceEntry (c : Continuity) (a : Axis) : Option SnapEntry :=
  match c.capture with
  | some cap => some (cap.buffer.entries.get a)
  | none => c.newest.map fun sl => (c.slot sl).entries.get a

/-! ### Marks (R152, R153) -/

/-- Sets or clears MOVING_SINCE_CAPTURE; as a current flag it raises no event (R9, R153). -/
def State.setMovingSince (s : State) (a : Axis) (v : Bool) : State :=
  s.setRecord a { s.record a with movingSinceCapture := v }

/-- The mark that an outdating event calls for, taken against the reference entry (R153). Once a capture has committed in RESTORING the newest
slot is no longer the source slot: R169 says of a decision that it marks the entry in the source slot, R153 that the mark is taken against the
newest slot, and the model marks the newest slot alone: the model's reading, log 50. -/
def State.markOutdated (s : State) (a : Axis) : State :=
  match s.cont.capture with
  | some _ => s.setCont { s.cont with pendingMarks := s.cont.pendingMarks.set a true }
  | none =>
    match s.cont.newest with
    | none => s
    | some sl =>
      let d := s.cont.slot sl
      if d.marks.get a then s
      else
        let cont := s.cont.setSlot sl { d with marks := d.marks.set a true }
        let cont := { cont with waitingMarks := cont.waitingMarks ++ [(sl, a)] }
        ((s.setCont cont).setMovingSince a true).wantParkTest

/-- An outdating event on an axis: it is taken against the reference entry, and noted for a freeze taken together with it (R148, R153). -/
def State.outdate (s : State) (a : Axis) : State := (s.markOutdated a).noteOutdated a

/-- A motor count lies outside the window of an entry (R152). -/
def outsideWindow (c : AxisCal) (e : SnapEntry) (mc : Int) : Bool :=
  match slipWindow c e with
  | none => true
  | some w => decide (w < (mc - e.count c.cpt).natAbs)

/-- The test of a change of motor count, made in RUNNING and HOLDUP (R152). -/
def State.motionTest (s : State) (a : Axis) : State :=
  match s.cont.phase, s.cont.referenceEntry a with
  | .running, some e | .holdup, some e => if outsideWindow (s.calOf a) e (s.count a) then s.outdate a else s
  | _, _ => s

end Sys2Proof.Machine
end

