-- ==== Sys2Proof/Machine/Flags.lean ====
section
/-! DEFINITION. The evaluation of the reported position with the flags it sets (R4, R5), and the one way in which an axis
record is changed, with everything the Axis Reference Table hands on (R6, R11, R25, R26). -/
namespace Sys2Proof.Machine

/-- The result of an evaluation of an axis's position: a position, INDEFINITE, or an overflow (R4). -/
inductive Evaluated where
  | position (v : Int)
  | indefinite
  | overflow
deriving DecidableEq, Repr

/-- Evaluates the reported position of an axis (R4). -/
def State.evaluated (s : State) (a : Axis) : Evaluated :=
  if (s.record a).state.framed && s.sourceFramed a then
    match s.joint a (s.count a) with
    | .value v => .position v
    | .outOfRange _ => .overflow
  else .indefinite

/-- The position as reported: INDEFINITE on an overflow too (R4). -/
def Evaluated.reported : Evaluated → Option Int
  | .position v => some v
  | .indefinite | .overflow => none

/-- BEYOND_LIMIT for an evaluated position: below the soft low limit or above the soft high limit (R5). -/
def Evaluated.beyond (e : Evaluated) (c : AxisCal) : Bool :=
  match e with
  | .position v => decide (v < c.softLow ∨ c.softHigh < v)
  | .indefinite | .overflow => false

/-- The record after an evaluation: position, BEYOND_LIMIT and, on an overflow, ARITH_OVERFLOW (R4, R5). -/
def evaluatedRecord (r : AxisRecord) (c : AxisCal) (e : Evaluated) : AxisRecord :=
  { r with position := e.reported, beyondLimit := e.beyond c
           sticky := { r.sticky with arithOverflow := r.sticky.arithOverflow || decide (e = .overflow) } }

/-- Evaluates an axis's position and hands on AXIS_STATE where R26 calls for it: BEYOND_LIMIT in either direction,
ARITH_OVERFLOW newly set, and a change between a value and INDEFINITE that comes from the coupling source's state. -/
def State.evaluate (s : State) (fromSourceState : Bool) (a : Axis) : State :=
  let old := s.record a
  let new := evaluatedRecord old (s.calOf a) (s.evaluated a)
  let s' := s.setRecord a new
  if old.beyondLimit ≠ new.beyondLimit ∨ old.sticky ≠ new.sticky
      ∨ (fromSourceState ∧ old.position.isSome ≠ new.position.isSome)
  then s'.emit (.axisState a) else s'

/-- The axes whose coupling source is the named axis. -/
def State.dependents (s : State) (a : Axis) : List Axis :=
  allAxes.filter fun b => decide ((s.calOf b).couplingSource = some a)

/-- Evaluates an axis and then every axis it is the coupling source of (R5). -/
def State.reevaluate (s : State) (a : Axis) (stateChanged : Bool) : State :=
  (s.dependents a).foldl (fun t b => t.evaluate stateChanged b) (s.evaluate false a)

/-- The changes of a record that raise AXIS_STATE (R26), but for those that an evaluation finds. -/
def reportable (old new : AxisRecord) : Bool :=
  decide (old.state ≠ new.state) || decide (old.epoch ≠ new.epoch) || decide (old.origin ≠ new.origin)
    || decide (old.lossCause ≠ new.lossCause) || decide (old.loadClass ≠ new.loadClass)
    || (new.sticky.arithOverflow && !old.sticky.arithOverflow) || (new.sticky.frameError && !old.sticky.frameError)
    || (new.sticky.coarseWarn && !old.sticky.coarseWarn) || (new.sticky.contactSeen && !old.sticky.contactSeen)

/-- The changes of a record that are a frame-change event: a change of epoch, or an entry into HOMING (R25). -/
def frameChanged (old new : AxisRecord) : Bool :=
  decide (old.epoch ≠ new.epoch) || (decide (new.state = .homing) && decide (old.state ≠ .homing))

/-- The changes of a record that ask the safety controller for an acknowledgement: an entry into PROVISIONAL, or a
change of epoch that leaves the axis PROVISIONAL (R26). -/
def ackNeeded (old new : AxisRecord) : Bool :=
  decide (new.state = .provisional) && (decide (old.state ≠ .provisional) || decide (old.epoch ≠ new.epoch))

/-- The coarse disagreement count is 0 whenever the epoch changes (R11). -/
def freshCount (old new : AxisRecord) : AxisRecord :=
  if old.epoch ≠ new.epoch then { new with disagreements := 0 } else new

/-- Makes a change of one record, and hands on what it calls for: AXIS_STATE and ACK_WANTED (R26), the frame-change event
(R25), the park test on a change of state (R147), and a fresh evaluation where the state, the turn or the fine changed (R5). -/
def State.commitRecord (s : State) (a : Axis) (new0 : AxisRecord) : State :=
  let old := s.record a
  let new := freshCount old new0
  let s1 := s.setRecord a new
  let s2 := if reportable old new then s1.emit (.axisState a) else s1
  let s3 := if ackNeeded old new && s2.asksAck then s2.emit (.ackWanted a new.epoch) else s2
  let s4 := if frameChanged old new then s3.outdate a else s3
  let s5 := if old.state ≠ new.state then s4.wantParkTest else s4
  if old.state ≠ new.state ∨ old.turn ≠ new.turn ∨ old.fine ≠ new.fine
  then s5.reevaluate a (decide (old.state ≠ new.state)) else s5

/-- Leaves the framed states for UNREFERENCED at a new epoch (R6, R7, R8). -/
def AxisRecord.loseFrame (r : AxisRecord) (cause : LossCause) : AxisRecord :=
  { r with state := .unreferenced, origin := .none, lossCause := cause, epoch := r.epoch + 1 }

end Sys2Proof.Machine
end

