-- ==== Sys2Proof/Machine/Arbiter.lean ====
section
/-! DEFINITION. The writes over the retention link: the bytes of a capture, the region writes, the arbiter and the
completion of a byte up to the commit of a capture (R63, R99, R143, R148, R149, R196). -/
namespace Sys2Proof.Machine

/-! ### The bytes of a capture (R149, R196) -/

/-- The header bytes at offsets 1 to 45: sequence, reason, fingerprint, version 1 and the reserved fields (R196). -/
def CaptureBuffer.header (b : CaptureBuffer) : List Byte :=
  be 4 b.sequence.toNat ++ [byte b.reason.code] ++ be 4 b.fingerprint.toNat ++ [byte 1] ++ List.replicate 35 (byte 0)

/-- Offsets 1 to 117, which the CRC-32 covers: the header without its slot state, and the entries (R140, R196). -/
def CaptureBuffer.covered (b : CaptureBuffer) : List Byte :=
  b.header ++ b.entries.toList.flatMap SnapEntry.bytes

/-- Bytes at rising offsets. -/
def atOffsets : Nat → List Byte → List (Nat × Byte)
  | _, [] => []
  | off, b :: rest => (off, b) :: atOffsets (off + 1) rest

/-- The writes of a capture in the order of R149: the header WRITING, the entries, the marks clear, the CRC-32, and the
slot state COMMITTED. -/
def CaptureBuffer.writes (b : CaptureBuffer) : List (Nat × Byte) :=
  atOffsets 0 (SlotState.writing.byte :: b.covered)
    ++ atOffsets 122 (List.replicate 6 (byte 0))
    ++ atOffsets 118 (be 4 (crc32 b.covered).toNat)
    ++ [(0, SlotState.committed.byte)]

/-- The number of bytes that a capture writes: 118 + 6 + 4 + 1 (R149). -/
def captureLength : Nat := 129

/-! ### Region writes (R63, R99) -/

/-- Queues a region write: a write in hand is replaced, and one IN_PROGRESS is cut (R63, R99). -/
def RegionWrite.queue (_ : RegionWrite) (image : List Byte) : RegionWrite := .waiting image

/-- The byte on the link, completed without further effect once the write it belongs to has been cut or dropped. -/
def orphanIf (f : LinkOwner → Bool) (l : Option LinkByte) : Option LinkByte :=
  l.map fun x => if f x.owner then { x with owner := .orphan } else x

/-- Queues a calibration write of the active set (R63). -/
def State.queueCalWrite (s : State) : State :=
  let s := s.setCal { s.cal with write := s.cal.write.queue s.cal.active.region }
  s.setLink (orphanIf (fun o => decide (o = .calibration)) s.link)

/-- Queues a recipe write of the active recipes (R99). -/
def State.queueRecipeWrite (s : State) : State :=
  let s := s.setRecipes { s.recipes with write := s.recipes.write.queue (recipesRegion s.recipes.active) }
  s.setLink (orphanIf (fun o => decide (o = .recipe)) s.link)

/-- Whether the write's last byte is the one on the link (log 19). -/
def RegionWrite.lastOnLink (w : RegionWrite) (onLink : Bool) : Bool :=
  match w with
  | .inProgress image n => onLink && decide (n + 1 = image.length)
  | .none | .waiting _ => false

/-- A capture that starts cuts a write IN_PROGRESS, which returns to WAITING and restarts from its first byte (R63, R99, R143). -/
def RegionWrite.cut (w : RegionWrite) : RegionWrite :=
  match w with
  | .inProgress image _ => .waiting image
  | .none => .none
  | .waiting image => .waiting image

/-- The byte on the link belongs to a writer. -/
def State.onLink (s : State) (o : LinkOwner) : Bool :=
  match s.link with
  | some x => decide (x.owner = o)
  | none => false

/-- Cuts the calibration write, unless its last byte is on the link (R63, log 19). -/
def State.cutCalWrite (s : State) : State :=
  if s.cal.write.lastOnLink (s.onLink .calibration) then s
  else (s.setCal { s.cal with write := s.cal.write.cut }).setLink (orphanIf (fun o => decide (o = .calibration)) s.link)

/-- Cuts the recipe write, unless its last byte is on the link (R99, log 19). -/
def State.cutRecipeWrite (s : State) : State :=
  if s.recipes.write.lastOnLink (s.onLink .recipe) then s
  else (s.setRecipes { s.recipes with write := s.recipes.write.cut }).setLink (orphanIf (fun o => decide (o = .recipe)) s.link)

/-! ### The arbiter (R143) -/

/-- The byte of a region write that is served next, and the write with that byte begun. -/
def RegionWrite.next : RegionWrite → Option (Nat × Byte × RegionWrite)
  | .none => Option.none
  | .waiting image => some (0, image.getD 0 0, .inProgress image 0)
  | .inProgress image n => some (n, image.getD n 0, .inProgress image n)

/-- Puts a byte on the link. -/
def State.startByte (s : State) (o : LinkOwner) (addr : Nat) (v : Byte) : State :=
  s.setLink (some { owner := o, addr := retentionAddr addr, value := v })

/-- The directory shows the target WRITING from the first byte of a capture, with the header being written (R149, log 21). -/
def writingEntry (d : DirEntry) (b : CaptureBuffer) : DirEntry :=
  { d with state := .writing, sequence := b.sequence, reason := byte b.reason.code, fingerprint := b.fingerprint
           marks := PerAxis.const false, entries := b.entries }

/-- Serves the next byte of a capture in flight. -/
def State.serveCapture (s : State) (cap : Capture) : State :=
  let w := cap.buffer.writes.getD cap.written (0, 0)
  let s := if cap.written = 0
    then s.setCont (s.cont.setSlot cap.target (writingEntry (s.cont.slot cap.target) cap.buffer)) else s
  s.startByte .capture (slotBase cap.target + w.1) w.2

/-- Serves the calibration write, then the recipe write: the two least preferred classes (R143). -/
def State.serveRegions (s : State) : State :=
  match s.cal.write.next with
  | some (n, v, w) => (s.setCal { s.cal with write := w }).startByte .calibration (calibrationBase + n) v
  | none =>
    match s.recipes.write.next with
    | some (n, v, w) => (s.setRecipes { s.recipes with write := w }).startByte .recipe (recipeBase + n) v
    | none => s

/-- Serves the most preferred class that has a byte waiting, when no byte is in progress (R143): slot writes in the order
queued (the header writes of a discard precede the bytes of any capture, R154), then marks, then the region writes. -/
def State.serve (s : State) : State :=
  match s.link with
  | some _ => s
  | none =>
    match s.cont.waitingSlotWrites with
    | sl :: _ => s.startByte .slotHeader (slotBase sl) SlotState.empty.byte
    | [] =>
      match s.cont.capture with
      | some cap => s.serveCapture cap
      | none =>
        match s.cont.waitingMarks with
        | (sl, a) :: _ => s.startByte (.mark sl a) (slotBase sl + 122 + (axisNumber a - 1)) 0x01#8
        | [] => s.serveRegions

/-! ### Captures (R148, R149) -/

/-- The entry that a freeze takes for an axis: the source entry carried forward for an axis still RESTORING with a source
slot, otherwise the record as it stands (R148). -/
def State.freezeEntry (s : State) (a : Axis) : SnapEntry :=
  match (s.record a).state, s.planner.entries with
  | .restoring, some src => src.entries.get a
  | _, _ => (s.record a).entry

/-- The axes whose carried-forward entry carried a mark in the source slot (R148). -/
def State.carriedMark (s : State) (a : Axis) : Bool :=
  match (s.record a).state, s.planner.entries with
  | .restoring, some src => src.marks.get a
  | _, _ => false

/-- The target slot and sequence of a capture (R149). A second capture in RESTORING, after a first has committed there, goes by R149 into
the slot that is not the newest, though R172 names the slot that is not the source slot: the model's reading, log 44. -/
def Continuity.captureTarget (c : Continuity) : Slot × BitVec 32 :=
  match c.newest with
  | some sl => (sl.other, (c.slot sl).sequence + 1)
  | none => (.a, 1)

/-- The freeze copy (R148). -/
def State.freeze (s : State) (reason : CaptureReason) : CaptureBuffer :=
  { sequence := s.cont.captureTarget.2, reason := reason, fingerprint := s.cal.fingerprint
    entries := PerAxis.of s.freezeEntry }

/-- The bytes on the link that a capture into a slot leaves without an owner: those of an abandoned capture and a mark
dropped with the others of its target slot (R149, R150). -/
def droppedBy (target : Slot) : LinkOwner → Bool
  | .capture => true
  | .mark sl _ => decide (sl = target)
  | .slotHeader | .calibration | .recipe | .orphan => false

/-- The pending marks with which a capture starts: the carried-forward marks, and the axes of the outdating events taken together with the
freeze, which are those of the earlier commands of this µs (R148). The events of the command that starts the capture are not among them:
their effect is in the entries, and the park test at the commit of the PARK capture that they called for finds nothing differing (R147, log
39). -/
def State.marksAtFreeze (s : State) : AxisSet := PerAxis.of fun a => s.carriedMark a || s.outdatedNow.get a

/-- Starts a capture with its freeze (R148, R149). -/
def State.startCapture (s : State) (reason : CaptureReason) : State :=
  let target := s.cont.captureTarget.1
  let s1 := s.setCont { s.cont with
    capture := some { target := target, written := 0, buffer := s.freeze reason }
    pendingMarks := s.marksAtFreeze
    waitingMarks := s.cont.waitingMarks.filter fun m => decide (m.1 ≠ target) }
  let s2 := s1.setLink (orphanIf (droppedBy target) s1.link)
  s2.cutCalWrite.cutRecipeWrite

/-- The directory record of the target of a capture that commits (R149). -/
def committedEntry (d : DirEntry) (b : CaptureBuffer) (marks : AxisSet) : DirEntry :=
  { d with state := .committed, sequence := b.sequence, reason := byte b.reason.code, fingerprint := b.fingerprint
           marks := marks, entries := b.entries }

/-- Sets MOVING_SINCE_CAPTURE in every record as a set of axes says. -/
def State.setAllMoving (s : State) (m : AxisSet) : State :=
  { s with records := PerAxis.of fun a => { s.record a with movingSinceCapture := m.get a } }

/-- The phase of HOLDUP ends where the level is DEASSERTED and no capture is in flight (R151). -/
def State.endHoldup (s : State) : State :=
  if s.cont.phase = .holdup ∧ s.cont.pfw = false ∧ s.cont.capture = none
  then (s.setCont { s.cont with phase := .running }).wantParkTest else s

/-- The effects of a commit on the directory, the marks and the records (R149). The marks of the pending set are queued in the order of the
axes 1 to 6: the model's choice, for a set has no order (log 43). -/
def State.commitSlot (s : State) (cap : Capture) : State :=
  let c := s.cont
  let c1 := c.setSlot cap.target (committedEntry (c.slot cap.target) cap.buffer c.pendingMarks)
  let c2 := { c1 with
    newest := some cap.target, capture := none, pendingMarks := PerAxis.const false
    waitingMarks := c.waitingMarks ++ (AxisSet.members c.pendingMarks).map fun a => (cap.target, a) }
  ((s.setCont c2).setAllMoving c.pendingMarks).emit .snapshot

/-- A capture owed to a power-fail warning that came during a POWER_FAIL capture (R145). -/
def State.takeOwed (s : State) : State :=
  if s.cont.owed then
    let s := s.setCont { s.cont with owed := false }
    if s.cont.pfw then s.startCapture .powerFail else s
  else s

/-- A capture commits: its slot, the capture owed, the end of HOLDUP, and the park test of the capture's end (R145, R147, R149, R151). -/
def State.commitCapture (s : State) (cap : Capture) : State :=
  (s.commitSlot cap).takeOwed.endHoldup.wantParkTest

/-! ### Completion of a byte (R143) -/

/-- The write after one more of its bytes is written: none after the last (R63, R99). -/
def RegionWrite.advance : RegionWrite → RegionWrite
  | .inProgress image n => if n + 1 < image.length then .inProgress image (n + 1) else .none
  | .none => .none
  | .waiting image => .waiting image

/-- One more byte of the capture in flight is written (R149). -/
def State.captureByteDone (s : State) : State :=
  match s.cont.capture with
  | none => s
  | some cap =>
    if cap.written + 1 < captureLength
    then s.setCont { s.cont with capture := some { cap with written := cap.written + 1 } }
    else s.commitCapture cap

/-- What the completion of a byte does for its writer. A header write waits until its byte is written (R154); that a mark does so too, and
counts in READ_SLOTS while its byte is in progress, is the model's choice (log 40). -/
def State.byteDone (s : State) : LinkOwner → State
  | .slotHeader => s.setCont { s.cont with waitingSlotWrites := s.cont.waitingSlotWrites.drop 1 }
  | .capture => s.captureByteDone
  | .mark sl a => s.setCont { s.cont with waitingMarks := s.cont.waitingMarks.filter fun m => decide (m ≠ (sl, a)) }
  | .calibration => s.setCal { s.cal with write := s.cal.write.advance }
  | .recipe => s.setRecipes { s.recipes with write := s.recipes.write.advance }
  | .orphan => s

/-- Writes a byte into retention memory. -/
def State.writeRetention (s : State) (addr : Fin retentionSize) (v : Byte) : State :=
  { s with retention := Memory.write s.retention addr.val v }

end Sys2Proof.Machine
end

