-- ==== Sys2Proof/Machine/Park.lean ====
section
/-! DEFINITION. The parked condition, the park state and its test (R41, R147), and the start and stop of the classification
timer with the changes of AT_REST and BRAKE_APPLIED (R9, R130). -/
namespace Sys2Proof.Machine

/-- The period of classification at rest: 32 ms (R130). -/
def classPeriod : Micros := 32000

/-- The three conditions of R130: at rest, brake released, no live order. -/
def State.classifies (s : State) (a : Axis) : Bool :=
  (s.record a).atRest && !(s.record a).brakeApplied && (s.load a).liveOrder.isNone

/-- Starts or stops the classification timer as the conditions of R130 come to hold or cease to hold. -/
def State.updateClassTimer (s : State) (a : Axis) : State :=
  let l := s.load a
  if s.classifies a then (if l.classTimer.isNone then s.setLoad a { l with classTimer := some classPeriod } else s)
  else s.setLoad a { l with classTimer := none }

/-- All six axes have AT_REST and BRAKE_APPLIED set (R41). -/
def State.allParked (s : State) : Bool :=
  allAxes.all fun a => (s.record a).atRest && (s.record a).brakeApplied

/-- Park-begin: NOT_PARKED becomes TIMING and the park timer starts with park_time (R147). -/
def State.parkBegin (s : State) : State :=
  match s.cont.park with
  | .notParked => s.setCont { s.cont with park := .timing, parkTimer := some (ms s.cal.active.device.parkTime) }
  | .timing | .ready => s

/-- Park-end: the park state becomes NOT_PARKED and the timer stops (R147). -/
def State.parkEnd (s : State) : State := s.setCont { s.cont with park := .notParked, parkTimer := none }

/-- Re-examines the parked condition after a change of a flag (R41). -/
def State.examineParked (s : State) : State :=
  match s.parked, s.allParked with
  | false, true => { s with parked := true }.parkBegin
  | true, false => { s with parked := false }.parkEnd
  | _, _ => s

/-- Sets or clears AT_REST; the parked condition and the classification timer follow (R9, R38, R41, R130). -/
def State.setAtRest (s : State) (a : Axis) (v : Bool) : State :=
  if (s.record a).atRest = v then s
  else ((s.setRecord a { s.record a with atRest := v }).examineParked).updateClassTimer a

/-- Sets or clears BRAKE_APPLIED; the parked condition and the classification timer follow (R9, R40, R41, R130). -/
def State.setBrake (s : State) (a : Axis) (v : Bool) : State :=
  if (s.record a).brakeApplied = v then s
  else ((s.setRecord a { s.record a with brakeApplied := v }).examineParked).updateClassTimer a

/-- The restorable state class of a record and of an entry agree, and where both are restorable the counts lie within
rest_band (R147, the last two clauses). -/
def State.matchesEntry (s : State) (a : Axis) (e : SnapEntry) : Bool :=
  let mine := restorable (some (s.record a).state)
  let its := restorable e.state
  decide (mine = its)
    && (!mine || decide ((s.count a - e.count (s.cpt a)).natAbs ≤ (s.calOf a).restBand))

/-- An axis differs from the newest slot (R147). -/
def State.axisDiffers (s : State) (a : Axis) : Bool :=
  match s.cont.newest with
  | none => true
  | some sl =>
    let d := s.cont.slot sl
    decide (d.fingerprint ≠ s.cal.fingerprint) || d.marks.get a || !s.matchesEntry a (d.entries.get a)

/-- The conditions under which the park test starts a capture (R147). -/
def State.parkCaptureWanted (s : State) : Bool :=
  decide (s.cont.park = .ready) && decide (s.cont.phase = .running) && s.cont.capture.isNone && !s.cont.pfw
    && allAxes.any s.axisDiffers

/-- The park test, made once at the end of the command whose events call for it (R147, log 12). -/
def State.parkTest (s : State) : State :=
  if s.parkTestDue && s.parkCaptureWanted then s.startCapture .park else s

end Sys2Proof.Machine
end

