-- ==== Sys2Proof/Machine/LoadMonitor.lean ====
section
/-! DEFINITION. The Load Monitor: classification, the events of orders and the contact reference (R129 to R137). -/
namespace Sys2Proof.Machine

/-- The magnitude of a current sample, 0 to 32768 (R129). -/
def magnitude (v : BitVec 16) : Nat := v.toInt.natAbs

/-- A list of at most `n` entries with one more appended, the oldest removed first when it is full (R42, R129, R136). -/
def pushWindow {α : Type} (n : Nat) (w : List α) (x : α) : List α := (w ++ [x]).drop (w.length + 1 - n)

/-- The class of a sum of magnitudes against the thresholds times the number of samples (R131, R133). -/
def classify (c : AxisCal) (samples sum : Nat) : LoadClass :=
  if sum < samples * c.emptyMax then .empty
  else if sum < samples * c.loadedMax then .loaded
  else .overload

/-- The sum of the magnitudes of a window. -/
def windowSum (w : List (BitVec 16)) : Nat := w.foldl (fun acc v => acc + magnitude v) 0

/-- Writes a load class into the record of an axis (R24, R131). -/
def State.setLoadClass (s : State) (a : Axis) (k : LoadClass) : State :=
  s.commitRecord a { s.record a with loadClass := k }

/-- A free value, and the counter advanced past it (log 24). -/
def State.useFree (s : State) : State := { s with freeCount := s.freeCount + 1 }

/-- The classification at rest over the 32 samples of the window (R131); with fewer samples, which R130 excludes, over a
free sum (log 24). -/
def State.classifyAtRest (s : State) (a : Axis) : State :=
  let w := (s.load a).window
  if w.length = 32 then s.setLoadClass a (classify (s.calOf a) 32 (windowSum w))
  else s.useFree.setLoadClass a (classify (s.calOf a) 32 (Config.unsampledMagnitude s.freeCount))

/-- The class of the most recent sample of the window (R133); a free magnitude where there is none (log 24). -/
def State.sampleClass (s : State) (a : Axis) : LoadClass :=
  match (s.load a).window.getLast? with
  | some v => classify (s.calOf a) 1 (magnitude v)
  | none => classify (s.calOf a) 1 (Config.unsampledMagnitude s.freeCount)

/-- Writes the class of a LOAD_CHECK sample into the record (R133). -/
def State.classifySample (s : State) (a : Axis) : State :=
  let k := s.sampleClass a
  if (s.load a).window.isEmpty then s.useFree.setLoadClass a k else s.setLoadClass a k

/-! ### The events of orders (R132, R135) -/

/-- The contact watch that an acceptance begins (R135). -/
def watchAtAcceptance (o : Order) : ContactWatch :=
  match o.kind with
  | .hold => .off
  | .jog | .moveBy => if o.rampIgnore = 0 then .watching else .ignoring

/-- The ignore time that an acceptance starts (R135). -/
def ignoreAtAcceptance (o : Order) : Timer :=
  match o.kind with
  | .hold => none
  | .jog | .moveBy => if o.rampIgnore = 0 then none else some (ms o.rampIgnore)

/-- The load sample timer that an acceptance starts, for a HOLD order: the load delay that the order took at its posting (R92, R118, R120,
R133). A commit between posting and acceptance leaves it, since a posted order keeps the values in force at its posting (R49); the sentence of
R49 on load samples started after a commit is read with that one, log 48. -/
def sampleAtAcceptance (o : Order) : Timer :=
  match o.kind with
  | .hold => some (ms (o.loadDelay.getD 0))
  | .jog | .moveBy => none

/-- Order accepted (R132, R133, R135). -/
def State.orderAccepted (s : State) (o : Order) : State :=
  let l := s.load o.axis
  (s.setLoad o.axis { l with
    liveOrder := some { kind := o.kind, orderId := o.orderId, acceptedAt := s.now }
    contactValues := some { margin := o.contactMargin, count := o.contactCount, rampIgnore := o.rampIgnore }
    sampleTimer := sampleAtAcceptance o, watch := watchAtAcceptance o, ignoreTimer := ignoreAtAcceptance o
    contactWindow := [], exceed := 0 }).updateClassTimer o.axis

/-- Order stopped: the watch becomes OFF and the load sample timer stops; the live order stays (R132). -/
def State.orderStopped (s : State) (a : Axis) : State :=
  s.setLoad a { s.load a with watch := .off, ignoreTimer := none, sampleTimer := none }

/-- Order ended: nothing is live any more, and classification at rest may begin again (R132). -/
def State.orderEnded (s : State) (a : Axis) : State :=
  match (s.load a).liveOrder with
  | none => s
  | some _ =>
    (s.setLoad a { s.load a with liveOrder := none, contactValues := none, watch := .off, ignoreTimer := none
                                 sampleTimer := none }).updateClassTimer a

/-! ### The contact watch (R136) -/

/-- The contact reference: the smallest magnitude of 2 or more in the window (R136). -/
def contactReference (w : List Nat) : Option Nat :=
  w.foldl (fun acc m =>
    if m < 2 then acc
    else match acc with
      | none => some m
      | some r => some (min r m)) none

/-- The exceed count after the test of a magnitude (R136). -/
def testContact (l : LoadState) (m : Nat) : Nat :=
  match contactReference l.contactWindow, l.contactValues with
  | some r, some v => if r + v.margin < m then l.exceed + 1 else 0
  | _, _ => 0

/-- The exceed count has reached the order's contact count (R136). -/
def contactReached (l : LoadState) (n : Nat) : Bool :=
  match l.contactValues with
  | some v => decide (0 < n ∧ v.count ≤ n)
  | none => false

end Sys2Proof.Machine
end

