-- ==== Sys2Proof/Machine/Channel.lean ====
section
/-! DEFINITION. The order slot and the channel wait queue: building, posting and stopping an order (R87, R108, R118 to R120, R123). -/
namespace Sys2Proof.Machine

/-- The run's recipe in the active store (R104). -/
def State.recipeOf (s : State) (r : Run) : List Step := s.recipes.active.getD r.recipeIndex []

/-- The step at a run's position (R88). -/
def State.stepOf (s : State) (r : Run) : Option Step := (s.recipeOf r)[r.position]?

/-- A speed class c gives homing_speed × c / 8, rounded down and raised to 1 (R87). -/
def orderSpeed (c : AxisCal) (speedClass : Nat) : Nat := max 1 (c.homingSpeed * speedClass / 8)

/-- The parts of an order that its step's kind gives: kind, direction, speed, distance and load delay (R87, R118). -/
structure OrderParts where
  kind : OrderKind
  direction : Option Direction
  speed : Option Nat
  distance : Option Nat
  loadDelay : Option Nat
deriving DecidableEq, Repr

/-- The order that a step asks (R86, R87); none for a step that asks no order. -/
def orderParts (c : AxisCal) : StepBody → Option OrderParts
  | .seekSwitch d v t _ | .leaveSwitch d v t _ | .seekIndex d v t _ =>
    some { kind := .jog, direction := some d, speed := some (orderSpeed c v), distance := some t, loadDelay := none }
  | .moveBy d v _ =>
    some { kind := .moveBy, direction := some (if 0 < d then .positive else .negative), speed := some (orderSpeed c v)
           distance := some d.natAbs, loadDelay := none }
  | .loadCheck => some { kind := .hold, direction := none, speed := none, distance := none, loadDelay := some c.loadDelay }
  | .settle _ | .capture .. | .mark | .verifyCoarse => none

/-- The step time in ms: the step's own, or move_timeout where it is 0 and for a LOAD_CHECK (R87). -/
def stepTime (c : AxisCal) : StepBody → Nat
  | .seekSwitch _ _ _ w | .leaveSwitch _ _ _ w | .seekIndex _ _ _ w | .moveBy _ _ w => if w = 0 then c.moveTimeout else w
  | .loadCheck | .settle _ | .capture .. | .mark | .verifyCoarse => c.moveTimeout

/-- The index watch that posting the step's order sets: only SEEK_INDEX sets one (R90, R108). -/
def watchOfStep : StepBody → Option IndexWatch
  | .seekIndex .positive _ _ _ => some .positive
  | .seekIndex .negative _ _ _ => some .negative
  | _ => none

/-- Sets the index watch of an axis. -/
def State.setWatch (s : State) (a : Axis) (w : IndexWatch) : State :=
  s.setSensor a { s.sensor a with indexWatch := w }

/-- The order record of a run's step, with the calibration in force (R120). -/
def buildOrder (s : State) (a : Axis) (r : Run) (o : OrderParts) : Order :=
  let c := s.calOf a
  { orderId := s.channel.orderIdCounter, runId := r.runId, axis := a, kind := o.kind, direction := o.direction
    speed := o.speed, distance := o.distance, stop := false, contactMargin := c.contactMargin
    contactCount := c.contactCount, rampIgnore := c.rampIgnore, loadDelay := o.loadDelay }

/-- Fills the slot with a run's order: slot, timers, run, index watch and the MOVE_ORDER event (R108, R120). -/
def State.postOrder (s : State) (a : Axis) (r : Run) (body : StepBody) (o : OrderParts) : State :=
  let c := s.channel
  let s1 := s.setChannel { c with
    slot := .posted, order := some (buildOrder s a r o), detached := false, orderIdCounter := nextId c.orderIdCounter
    acceptTimer := some (ms s.cal.active.device.acceptTimeout), stepTimer := some (ms (stepTime (s.calOf a) body))
    stopTimer := none }
  let s2 := s1.setRun a (some { r with phase := .ordered, orderId := some c.orderIdCounter, stepStart := some s.now })
  let s3 := match watchOfStep body with
    | some w => s2.setWatch a w
    | none => s2
  s3.emit .moveOrder

/-- Posts the order of an axis taken from the head of the queue (R120). -/
def State.postHead (s : State) (a : Axis) : State :=
  match s.run a with
  | none => s
  | some r =>
    match s.stepOf r with
    | none => s
    | some st =>
      match orderParts (s.calOf a) st.body with
      | none => s
      | some o => s.postOrder a r st.body o

/-- Hands the slot to the head of the queue when it is EMPTY (R119). -/
def State.postIfFree (s : State) : State :=
  match s.channel.slot, s.channel.queue with
  | .empty, a :: rest => (s.setChannel { s.channel with queue := rest }).postHead a
  | _, _ => s

/-- A run joins the tail of the wait queue (R107, R119). -/
def State.joinQueue (s : State) (a : Axis) (r : Run) : State :=
  (s.setChannel { s.channel with queue := s.channel.queue ++ [a] }).setRun a (some { r with phase := .waitChannel })

/-- A run leaves the wait queue; the others keep their order (R119). -/
def State.leaveQueue (s : State) (a : Axis) : State :=
  s.setChannel { s.channel with queue := s.channel.queue.filter fun b => decide (b ≠ a) }

/-- The slot without an order, its timers stopped. -/
def MoveChannel.emptied (c : MoveChannel) : MoveChannel :=
  { c with slot := .empty, order := none, detached := false, acceptTimer := none, stepTimer := none, stopTimer := none }

/-- Posts STOP for the order in the slot (R123); an order already STOPPING is left as it is. -/
def State.postStop (s : State) : State :=
  match s.channel.order, s.channel.slot with
  | some o, .posted =>
    (s.setChannel { s.channel with
      slot := .stopping, order := some { o with stop := true }, acceptTimer := none, stepTimer := none
      stopTimer := some (ms s.cal.active.device.stopTimeout) }).emit .moveOrder
  | some o, .active =>
    ((s.setChannel { s.channel with
      slot := .stopping, order := some { o with stop := true }, acceptTimer := none, stepTimer := none
      stopTimer := some (ms s.cal.active.device.stopTimeout) }).emit .moveOrder).orderStopped o.axis
  | _, _ => s

/-- The slot holds the order of the axis's run: an order of the axis that is not detached (R118, R127). -/
def State.holdsOrderOf (s : State) (a : Axis) : Bool :=
  match s.channel.order with
  | some o => decide (o.axis = a) && !s.channel.detached
  | none => false

/-- The slot holds a detached order of the axis (R103, R127). -/
def State.holdsDetachedOf (s : State) (a : Axis) : Bool :=
  match s.channel.order with
  | some o => decide (o.axis = a) && s.channel.detached
  | none => false

/-- The order in the slot, if it is not detached: its run's axis. -/
def State.slotAxis (s : State) : Option Axis :=
  match s.channel.order with
  | some o => if s.channel.detached then none else some o.axis
  | none => none

/-- Makes the order of an axis's run in the slot a detached order: STOP is posted if it was not already (R114). -/
def State.detachOrder (s : State) (a : Axis) : State :=
  if s.holdsOrderOf a then
    let s := s.postStop
    s.setChannel { s.channel with detached := true }
  else s

end Sys2Proof.Machine
end

