-- ==== Sys2Proof/Machine/Runs.lean ====
section
/-! DEFINITION. The Homing Sequencer: the end of a run, aborts, the taking of steps, and the events that meet or defeat a
step (R3, R88 to R95, R106 to R117). -/
namespace Sys2Proof.Machine

/-! ### Ends and aborts -/

/-- The record of an axis whose run has ended (R16). -/
def AxisRecord.afterRun (r : AxisRecord) (res : RunResult) : AxisRecord :=
  match res with
  | .homed => { r with runId := none, state := .provisional, origin := .homed, epoch := r.epoch + 1 }
  | _ => { r with runId := none, state := .unreferenced, origin := .none, lossCause := .homingFailed }

/-- The permit record returns to NONE (R74, R84). -/
def AuthEntry.withoutPermit (x : AuthEntry) : AuthEntry := { x with permit := .none, permitRun := none, permitTimer := none }

/-- The effects of a run's end, in the order of R117, for the run held under the axis. -/
def State.endRunOf (s : State) (a : Axis) (r : Run) (res : RunResult) : State :=
  let s1 := ((s.setSettle a none).setWatch a .off).leaveQueue a
  let s2 := s1.setAuth a (s1.auth a).withoutPermit
  let s3 := s2.orderEnded a
  let s4 := (s3.setRun a none).setLastRun a (r.runId, res)
  let s5 := s4.commitRecord a ((s4.record a).afterRun res)
  s5.emit (.runEnd a r.owner r.runId res)

/-- Ends the run of an axis, if there is one (R117). -/
def State.endRun (s : State) (a : Axis) (res : RunResult) : State :=
  match s.run a with
  | none => s
  | some r => s.endRunOf a r res

/-- Posts STOP for a run's order and goes to a phase with a pending result (R109, R112). -/
def State.stopRun (s : State) (a : Axis) (r : Run) (phase : RunPhase) (pending : Option RunResult) : State :=
  s.postStop.setRun a (some { r with phase := phase, pendingResult := pending })

/-- Takes an abort of a run by its phase (R75, R112). In STOPPING the stop already posted is kept, and in ENDING the pending result stands,
whatever gave it and whenever (R112, R113; log 42). -/
def State.abortRun (s : State) (a : Axis) (res : RunResult) : State :=
  match s.run a with
  | none => s
  | some r =>
    match r.phase with
    | .waitPermit | .waitChannel | .settling => s.endRunOf a r res
    | .ordered | .moving => s.stopRun a r .ending (some res)
    | .stopping => s.setRun a (some { r with phase := .ending, pendingResult := some res })
    | .ending => s

/-! ### Steps -/

/-- The position advances; the order id and the step start time become absent (R107, R110). -/
def State.advanceRun (s : State) (a : Axis) : State :=
  match s.run a with
  | none => s
  | some r => s.setRun a (some { r with position := r.position + 1, orderId := none, stepStart := none })

/-- A capture condition at this moment (R93). -/
def State.captureHolds (s : State) (a : Axis) (r : Run) : CaptureCond → Bool
  | .switchActive => decide ((s.sensor a).switchLevel = .active)
  | .loadLoaded => decide ((s.record a).loadClass = .loaded)
  | .loadEmpty => decide ((s.record a).loadClass = .empty)
  | .coarseAboveHome =>
    match s.coarseJoint a with
    | some j => decide ((s.calOf a).homePosition < j)
    | none => false
  | .indexLatched => r.latch.isSome

/-- Writes a run flag (R93). -/
def Run.setFlag (r : Run) (f : RunFlag) (v : Bool) : Run :=
  match f with
  | .l0 => { r with l0 := v }
  | .l1 => { r with l1 := v }

/-- What a step comes to when it is taken. -/
inductive StepResult where
  /-- The step is done; the run goes on to the next position. -/
  | done (s : State)
  /-- The run waits. -/
  | waits (s : State)
  /-- The run ends with a result. -/
  | ends (s : State) (res : RunResult)

/-- A latched count expressed after a rebase by its own turns: turn 0 with the same fine (R94). -/
def rebasedLatch (latch : Int) (cpt : Nat) : Int := latch.emod (cpt : Int)

/-- Moves the rest anchor by whole turns (R36). -/
def State.shiftAnchor (s : State) (a : Axis) (by_ : Int) : State :=
  s.setSensor a { s.sensor a with restAnchor := (s.sensor a).restAnchor.map (· + by_) }

/-- The rebase of R3 on a latched count: none where the turn would leave its range or the axis is not HOMING. -/
def State.rebase (s : State) (a : Axis) (latch : Int) : Option State :=
  let turns := latch.fdiv (s.cpt a : Int)
  let t := (s.record a).turn - turns
  if (s.record a).state = .homing ∧ turnInRange t then
    let s1 := s.commitRecord a { s.record a with turn := t }
    some ((s1.outdate a).shiftAnchor a (-turns * (s.cpt a : Int)))
  else none

/-- MARK (R94). -/
def State.takeMark (s : State) (a : Axis) (r : Run) : StepResult :=
  match r.latch with
  | none => .ends s .noIndex
  | some latch =>
    match s.rebase a latch with
    | none => .ends s .noIndex
    | some s' => .done (s'.setRun a (some { r with marked := true, latch := some (rebasedLatch latch (s.cpt a)) }))

/-- VERIFY_COARSE (R95). -/
def State.takeVerify (s : State) (a : Axis) (r : Run) : StepResult :=
  if (s.calOf a).coarsePresent = false then .done s
  else if r.marked = false then .ends s .notMarked
  else if s.sourceFramed a = false then .ends s .coarseMismatch
  else if s.coarseJoint a = none then .ends s .coarseMismatch
  else if s.agreesWithCoarse a (s.joint a (s.count a)) then .done s
  else .ends s .coarseMismatch

/-- SETTLE starts its timer (R91, R107). -/
def State.takeSettle (s : State) (a : Axis) (r : Run) (time : Nat) : StepResult :=
  .waits ((s.setSettle a (some (ms time))).setRun a (some { r with phase := .settling, stepStart := some s.now }))

/-- The switch level that a step seeks (R89). -/
def soughtLevel : StepBody → Option SwitchLevel
  | .seekSwitch .. => some .active
  | .leaveSwitch .. => some .inactive
  | _ => none

/-- A switch step whose level already holds is done; otherwise it asks its order (R89, R107). -/
def State.takeSwitch (s : State) (a : Axis) (r : Run) (sought : SwitchLevel) : StepResult :=
  if (s.sensor a).switchLevel = sought then .done s else .waits (s.joinQueue a r)

/-- Takes a step by its kind (R89 to R95, R107). -/
def State.takeStep (s : State) (a : Axis) (r : Run) : StepBody → StepResult
  | .seekSwitch .. => s.takeSwitch a r .active
  | .leaveSwitch .. => s.takeSwitch a r .inactive
  | .seekIndex .. | .moveBy .. | .loadCheck => .waits (s.joinQueue a r)
  | .settle t => s.takeSettle a r t
  | .capture f k => .done (s.setRun a (some (r.setFlag f (s.captureHolds a r k))))
  | .mark => s.takeMark a r
  | .verifyCoarse => s.takeVerify a r

/-- The result of a run that has done its list (R115). -/
def listResult (r : Run) : RunResult := if r.marked then .homed else .notMarked

/-- Takes the steps from a run's position on, until one waits or the run ends (R88, R107, R115). The list holds the
steps from the position on. -/
def takeSteps (a : Axis) : List Step → State → State
  | [], s =>
    match s.run a with
    | none => s
    | some r => s.endRunOf a r (listResult r)
  | st :: rest, s =>
    match s.run a with
    | none => s
    | some r =>
      if st.cond.holds r.l0 r.l1 then
        match s.takeStep a r st.body with
        | .done s' => takeSteps a rest (s'.advanceRun a)
        | .waits s' => s'
        | .ends s' res => s'.endRun a res
      else takeSteps a rest (s.advanceRun a)

/-- The run of an axis takes the step at its position and those after it, and the slot goes to the head of the queue
where it is free (R107, R119). -/
def State.continueRun (s : State) (a : Axis) : State :=
  match s.run a with
  | none => s
  | some r => (takeSteps a ((s.recipeOf r).drop r.position) s).postIfFree

/-- The step in hand is done: its watch goes OFF and the run goes on to the next position (R90, R108, R110). -/
def State.stepDone (s : State) (a : Axis) : State := ((s.setWatch a .off).advanceRun a).continueRun a

/-! ### Events that meet or defeat a step (R109) -/

/-- A run is ORDERED or MOVING (R109). -/
def Run.live (r : Run) : Bool :=
  match r.phase with
  | .ordered | .moving => true
  | _ => false

/-- The step's goal is met: STOP is posted and the run goes to STOPPING (R109). -/
def State.meetStep (s : State) (a : Axis) : State :=
  match s.run a with
  | none => s
  | some r => if r.live then s.stopRun a r .stopping none else s

/-- The step is defeated: STOP is posted and the run goes to ENDING with a result (R109). -/
def State.defeatStep (s : State) (a : Axis) (res : RunResult) : State :=
  match s.run a with
  | none => s
  | some r => if r.live then s.stopRun a r .ending (some res) else s

/-- The level that the step in hand seeks. -/
def State.seeks (s : State) (r : Run) : Option SwitchLevel := (s.stepOf r).bind fun st => soughtLevel st.body

/-- A switch event (R89, R109). -/
def State.switchEvent (s : State) (a : Axis) (level : SwitchLevel) : State :=
  match s.run a with
  | none => s
  | some r =>
    if s.seeks r = some level then
      match r.phase with
      | .waitChannel => (s.leaveQueue a).stepDone a
      | .ordered | .moving => s.meetStep a
      | .waitPermit | .stopping | .settling | .ending => s
    else s

/-- The step in hand is a SEEK_INDEX. -/
def State.seeksIndex (s : State) (r : Run) : Bool :=
  match s.stepOf r with
  | some { body := .seekIndex .., .. } => true
  | _ => false

/-- An index crossing: it becomes the latch, and meets the step unless STOP has been posted (R90, R109). -/
def State.indexCrossing (s : State) (a : Axis) (c : Int) : State :=
  match s.run a with
  | none => s
  | some r => if s.seeksIndex r then (s.setRun a (some { r with latch := some c })).meetStep a else s

/-- Contact on a JOG or MOVE_BY order of a run that is MOVING (R109, R137). -/
def State.contactEvent (s : State) (a : Axis) : State :=
  match s.run a with
  | some r => if r.phase = .moving then s.defeatStep a .contact else s
  | none => s

/-- The step in hand is a LOAD_CHECK. -/
def State.checksLoad (s : State) (r : Run) : Bool :=
  match s.stepOf r with
  | some { body := .loadCheck, .. } => true
  | _ => false

/-- The class of a LOAD_CHECK sample, for a run that is MOVING in that step (R92, R109, R133). A run that a STOP has already moved keeps its
path (R109, R134; log 42). -/
def State.loadCheckEvent (s : State) (a : Axis) (k : LoadClass) : State :=
  match s.run a with
  | none => s
  | some r =>
    if r.phase = .moving ∧ s.checksLoad r then
      match k with
      | .overload => s.defeatStep a .overload
      | .empty | .loaded | .unknown => s.meetStep a
    else s

/-! ### The end of an order (R110) -/

/-- What REACHED gives a run that is MOVING, by the kind of its step: none where the step is done (R110). -/
def reachedResult : StepBody → Option RunResult
  | .moveBy .. => none
  | .seekSwitch .. => some .noSwitch
  | .leaveSwitch .. => some .switchStuck
  | .seekIndex .. => some .noIndex
  | .loadCheck => some .moveRejected
  | .settle _ | .capture .. | .mark | .verifyCoarse => some .moveRejected

/-- MOVE_END for a run that is MOVING (R110). -/
def State.endMoving (s : State) (a : Axis) (r : Run) (o : MoveOutcome) : State :=
  match o with
  | .refused | .fault | .stopped => s.endRunOf a r .moveRejected
  | .reached =>
    match (s.stepOf r).bind fun st => reachedResult st.body with
    | none => s.stepDone a
    | some res => s.endRunOf a r res

/-- MOVE_END completes or ends the step of the order's run (R110). -/
def State.moveEnded (s : State) (a : Axis) (o : MoveOutcome) : State :=
  match s.run a with
  | none => s
  | some r =>
    match r.phase with
    | .ending => s.endRunOf a r (r.pendingResult.getD .moveRejected)
    | .stopping =>
      match o with
      | .stopped | .reached => s.stepDone a
      | .refused | .fault => s.endRunOf a r .moveRejected
    | .ordered => s.endRunOf a r .moveRejected
    | .moving => s.endMoving a r o
    | .waitPermit | .waitChannel | .settling => s

/-! ### Loss and power failure (R21, R114, R116) -/

/-- A loss event ends the run of a HOMING axis at once; its order, if it is in the slot, is detached (R114). -/
def State.loseRun (s : State) (a : Axis) : State := (s.detachOrder a).endRun a .sensorLost

/-- A slot holding an order in POSTED, ACTIVE or STOPPING is emptied by a power-fail event, and the Motion Port is told
(R116, log 16). -/
def State.emptySlot (s : State) : State :=
  match s.channel.slot, s.channel.order with
  | .posted, some o | .active, some o | .stopping, some o =>
    ((s.setChannel s.channel.emptied).orderEnded o.axis).emit .moveOrder
  | _, _ => s

/-- The power-fail event: the channel is emptied and every run ends POWER_FAIL (R116). -/
def State.powerFailEvent (s : State) : State :=
  let s := s.emptySlot
  let s := s.setChannel { s.channel with queue := [] }
  allAxes.foldl (fun t a => t.endRun a .powerFail) s

end Sys2Proof.Machine
end

