-- ==== Sys2Proof/Machine/Recovery.lean ====
section
/-! DEFINITION. The Recovery Planner: examination of the slots, the worklist, readiness, the decision of an axis and the end
of recovery (R142, R158 to R173). -/
namespace Sys2Proof.Machine

/-! ### Examination of a slot (R158, R196, R197) -/

/-- A slot as read from retention memory (R157). -/
structure SlotImage where
  stateByte : Byte
  sequence : BitVec 32
  reason : Byte
  fingerprint : BitVec 32
  version : Byte
  reservedZero : Bool
  entries : PerAxis SnapEntry
  crcMatches : Bool
  marks : AxisSet
deriving DecidableEq, Repr

/-- The slot that 128 bytes give (R196, R197). -/
def slotImageOf (bs : List Byte) : SlotImage :=
  { stateByte := bs.getD 0 0
    sequence := BitVec.ofNat 32 (natOfBytes (slice bs 1 4))
    reason := bs.getD 5 0
    fingerprint := BitVec.ofNat 32 (natOfBytes (slice bs 6 4))
    version := bs.getD 10 0
    reservedZero := (slice bs 11 35).all fun b => decide (b = 0)
    entries := PerAxis.of fun a => snapEntryOfBytes (slice bs (46 + 12 * (axisNumber a - 1)) 12)
    crcMatches := decide ((crc32 (slice bs 1 117)).toNat = natOfBytes (slice bs 118 4))
    marks := PerAxis.of fun a => decide (bs.getD (122 + (axisNumber a - 1)) 0 ≠ 0) }

/-- Reads a slot whole (R157). -/
def State.readSlot (s : State) (sl : Slot) : SlotImage :=
  slotImageOf (Memory.readBytes s.retention (slotBase sl) 128)

/-- The state byte is that of a COMMITTED header. -/
def SlotImage.isCommitted (i : SlotImage) : Bool := decide (i.stateByte = SlotState.committed.byte)

/-- The verdict of a slot: the first check that applies (R158). -/
def SlotImage.verdict (i : SlotImage) (fingerprint : BitVec 32) : Verdict :=
  if i.stateByte = SlotState.empty.byte then .empty
  else if ¬ i.isCommitted then .torn
  else if ¬ i.crcMatches then .badCheck
  else if i.version ≠ 1 ∨ ¬ i.reservedZero then .badFormat
  else if i.fingerprint ≠ fingerprint then .staleCalibration
  else .valid

/-- A slot is intact: its verdict is BAD_FORMAT, STALE_CALIBRATION or VALID (R158). -/
def Verdict.intact : Verdict → Bool
  | .badFormat | .staleCalibration | .valid => true
  | .empty | .torn | .badCheck => false

/-- Sequence a is newer than b: (a − b) modulo 2^32 lies in 1 to 2^31 − 1 (R140). -/
def newerThan (a b : BitVec 32) : Bool := decide (1 ≤ (a - b).toNat ∧ (a - b).toNat ≤ 2 ^ 31 - 1)

/-- The slot N of R159: the intact slot with the newer sequence, or the one that is intact; slot A where both are intact
and neither is newer. -/
def newestIntact (a b : SlotImage) (va vb : Verdict) : Option Slot :=
  match va.intact, vb.intact with
  | true, true => if newerThan b.sequence a.sequence then some .b else some .a
  | true, false => some .a
  | false, true => some .b
  | false, false => none

/-- Both slots are intact and neither sequence is newer than the other (R159). -/
def sequencesTied (a b : SlotImage) (va vb : Verdict) : Bool :=
  va.intact && vb.intact && !newerThan a.sequence b.sequence && !newerThan b.sequence a.sequence

/-- The source slot of recovery (R159). -/
def sourceSlot (a b : SlotImage) (va vb : Verdict) : Option Slot :=
  if sequencesTied a b va vb then none
  else match newestIntact a b va vb with
    | some .a => if va = .valid then some .a else none
    | some .b => if vb = .valid then some .b else none
    | none => none

/-- The slot state that the directory holds for a state byte; a byte that is none of the three is held as WRITING (log 21). -/
def slotStateOfByte (b : Byte) : SlotState :=
  if b = SlotState.empty.byte then .empty else if b = SlotState.committed.byte then .committed else .writing

/-- The directory record that a slot as read gives (R142); VALID alone is noted as passed (the model's choice, log 37). -/
def SlotImage.dirEntry (i : SlotImage) (v : Verdict) : DirEntry :=
  { state := slotStateOfByte i.stateByte, sequence := i.sequence, reason := i.reason, fingerprint := i.fingerprint
    marks := i.marks, passed := decide (v = .valid), entries := i.entries }

/-! ### Decisions (R164 to R167) -/

/-- A recovery record of a FAILED axis with the snapshot-path fields given. -/
def failedRecord (src : Option Slot) (reason : Reason) (path : Option SnapPath) (delta : Option Int) (window : Option Nat) :
    RecoveryRecord :=
  { outcome := .failed, reason := some reason, path := path, delta := delta, window := window, turn := none, source := src }

/-- The first condition of R165 that fails for an axis and its source entry, if one does. -/
def snapPathFails (e : SnapEntry) (mark disturbed : Bool) : Option SnapPath :=
  if ¬ restorable e.state then some .notFramed
  else if mark then some .outdated
  else if e.load = .overload then some .overload
  else if disturbed then some .disturbed
  else none

/-- What the snapshot path comes to (R165). -/
inductive SnapResult where
  /-- The path did not apply; the snapshot-path field. -/
  | notApplied (path : SnapPath)
  /-- The path fell through; the snapshot-path field, Δ and the window. -/
  | fellThrough (path : SnapPath) (delta : Int) (window : Nat)
  /-- A candidate: Δ, the window and the chosen turn. -/
  | candidate (delta : Int) (window : Nat) (turn : Int)
deriving DecidableEq, Repr

/-- The candidate that an entry gives with a window (R165). -/
def snapCandidate (s : State) (a : Axis) (e : SnapEntry) (w : Nat) : SnapResult :=
  let cpt := s.cpt a
  let r := s.record a
  let first : Int := (((s.planner.firstFine.get a).getD r.fine : Nat) : Int)
  let delta := bringIntoTurn (first - (e.fine : Int)) cpt
  let j := ((e.fine : Int) + delta - first).fdiv (cpt : Int)
  let turn := e.turn + j + r.turn
  if w < delta.natAbs then .fellThrough .windowExceeded delta w
  else if ¬ turnInRange turn then .fellThrough .turnOutOfRange delta w
  else .candidate delta w turn

/-- The snapshot path of R165. -/
def State.snapshotPath (s : State) (a : Axis) : SnapResult :=
  match s.planner.entries with
  | none => .notApplied .noSource
  | some src =>
    let e := src.entries.get a
    match snapPathFails e (src.marks.get a) (s.planner.disturbed.get a) with
    | some p => .notApplied p
    | none =>
      match slipWindow (s.calOf a) e with
      | none => .notApplied .overload
      | some w => snapCandidate s a e w

/-- The turn among t0−1, t0 and t0+1 that lies within T of the coarse joint value (R167); the lowest where two lie within it, which the
rounding of R46 allows beside the check of R56 (the model's choice, log 46). -/
def State.matchingTurn (s : State) (a : Axis) (t0 : Int) : Option Int :=
  [t0 - 1, t0, t0 + 1].find? fun t =>
    turnInRange t && s.agreesWithCoarse a (s.joint a (motorCount t (s.record a).fine (s.cpt a)))

/-- The coarse path, with the snapshot-path fields that the record keeps (R167, R168). -/
def State.coarsePath (s : State) (a : Axis) (path : SnapPath) (delta : Option Int) (window : Option Nat) : RecoveryRecord :=
  match (s.coarseJoint a).bind fun k => s.matchingTurn a (s.coarseTurn a k) with
  | some t =>
    { outcome := .rebuilt, reason := some .coarseMatch, path := some path, delta := delta, window := window
      turn := some t, source := s.planner.source }
  | none => failedRecord s.planner.source .noCandidate (some path) delta window

/-- The check of a snapshot candidate against the coarse sensor (R166). -/
def State.checkCandidate (s : State) (a : Axis) (delta : Int) (window : Nat) (turn : Int) : RecoveryRecord :=
  let j := s.joint a (motorCount turn (s.record a).fine (s.cpt a))
  if (s.calOf a).coarsePresent && !s.agreesWithCoarse a j
  then failedRecord s.planner.source .conflict (some .used) (some delta) (some window)
  else
    { outcome := .restored, reason := some .withinWindow, path := some .used, delta := some delta, window := some window
      turn := some turn, source := s.planner.source }

/-- The decision of a ready head axis (R164). -/
def State.decision (s : State) (a : Axis) : RecoveryRecord :=
  let src := s.planner.source
  if ¬ s.sourceFramed a then failedRecord src .sourceUnresolved none none none
  else
    match s.snapshotPath a with
    | .candidate d w t => s.checkCandidate a d w t
    | .fellThrough p d w =>
      if (s.calOf a).coarsePresent then s.coarsePath a p (some d) (some w)
      else failedRecord src (if p = .windowExceeded then .windowExceeded else .notRestorable) (some p) (some d) (some w)
    | .notApplied p =>
      if (s.calOf a).coarsePresent then s.coarsePath a p none none
      else failedRecord src .notRestorable (some p) none none

/-! ### Taking a decision (R14, R169) -/

/-- The captured epoch and sticky flags of an axis's source entry. -/
def State.capturedEntry (s : State) (a : Axis) : SnapEntry :=
  match s.planner.entries with
  | some src => src.entries.get a
  | none => (s.record a).entry

/-- Joins two sets of sticky flags. -/
def StickyFlags.union (x y : StickyFlags) : StickyFlags :=
  ⟨x.arithOverflow || y.arithOverflow, x.frameError || y.frameError, x.coarseWarn || y.coarseWarn, x.contactSeen || y.contactSeen⟩

/-- The record that an outcome gives an axis (R14). -/
def recoveredRecord (r : AxisRecord) (e : SnapEntry) (d : RecoveryRecord) : AxisRecord :=
  match d.outcome with
  | .restored =>
    { r with state := .provisional, origin := .snapshot, epoch := e.epoch + 1, turn := d.turn.getD r.turn
             sticky := r.sticky.union (stickyOfBits e.stickyCode), disagreements := 0 }
  | .rebuilt =>
    { r with state := .provisional, origin := .rebuilt, epoch := 1, turn := d.turn.getD r.turn, disagreements := 0 }
  | .failed | .pending | .notAttempted =>
    { r with state := .unreferenced, origin := .none, lossCause := .recoveryFailed, epoch := 1, disagreements := 0 }

/-- The effects of a decision, in the order of R169, up to the taking of the new head. -/
def State.decideAxis (s : State) (a : Axis) (rest : List Axis) (d : RecoveryRecord) : State :=
  let s1 := s.setPlanner { s.planner with outcomes := s.planner.outcomes.set a d, worklist := rest }
  let old := s1.record a
  let new := recoveredRecord old (s1.capturedEntry a) d
  let s2 := s1.commitRecord a new
  let s3 := s2.shiftAnchor a ((new.turn - old.turn) * (s2.cpt a : Int))
  s3.outdate a

/-- The pairs (axis, epoch) of the axes that are PROVISIONAL (R170). -/
def State.provisionalPairs (s : State) : PerAxis (Option (BitVec 16)) :=
  PerAxis.of fun a => if (s.record a).state = .provisional then some (s.record a).epoch else none

/-- The sensor wait timer stops; one that has expired stays expired (R170, log 15). -/
def SensorWait.stop : SensorWait → SensorWait
  | .running _ => .stopped
  | .stopped => .stopped
  | .expired => .expired

/-- Some capture in flight has the reason POWER_FAIL (R151). -/
def Continuity.powerFailInFlight (c : Continuity) : Bool :=
  match c.capture with
  | some cap => decide (cap.buffer.reason = .powerFail)
  | none => false

/-- The phase in which recovery ends: RUNNING, or HOLDUP while the level is ASSERTED or a POWER_FAIL capture is in flight (R151, R170). -/
def State.phaseAfterRecovery (s : State) : Phase :=
  if s.cont.pfw || s.cont.powerFailInFlight then .holdup else .running

/-- The end of recovery (R170), with the park test of the entry into RUNNING (R147). -/
def State.endRecovery (s : State) : State :=
  let s := s.setPlanner { s.planner with sensorWait := s.planner.sensorWait.stop }
  let s := s.emit (.recoveryDone s.provisionalPairs)
  let s := s.setCont { s.cont with phase := s.phaseAfterRecovery }
  if s.cont.phase = .running then s.wantParkTest else s

/-- The head axis is ready (R163). -/
def State.headReady (s : State) (a : Axis) : Bool :=
  decide ((s.sensor a).readStatus = .tracking)
    && (!(s.calOf a).coarsePresent || (s.sensor a).coarseAverage.isSome)

/-- Takes the heads of the worklist, as long as each can be decided in this event (R163, R164, R169, R170). -/
def runWorklist : List Axis → State → State
  | [], s => s.endRecovery
  | a :: rest, s =>
    if s.headReady a then runWorklist rest (s.decideAxis a rest (s.decision a))
    else if s.planner.sensorWait = .expired ∧ (s.sensor a).readStatus ≠ .tracking then
      runWorklist rest (s.decideAxis a rest (failedRecord s.planner.source .noSensor none none none))
    else s

/-- Takes the worklist while the phase is RESTORING (R163). -/
def State.takeWorklist (s : State) : State :=
  if s.cont.phase = .restoring then runWorklist s.planner.worklist s else s

/-- Takes the worklist where the axis is its head: the events that R163 lists are its own reads and coarse samples; a commit that
makes a head ready is not among them (the model's choice, log 14). -/
def State.takeHead (s : State) (a : Axis) : State :=
  if s.planner.worklist.head? = some a then s.takeWorklist else s

/-! ### The worklist (R162) -/

/-- An axis may be placed: its coupling source, if it has one, is already placed. -/
def placeable (set : CalSet) (placed : List Axis) (a : Axis) : Bool :=
  !placed.contains a &&
    match (set.axes.get a).couplingSource with
    | none => true
    | some b => placed.contains b

/-- Repeatedly appends the lowest-numbered axis that may be placed, at most `n` times (R162). -/
def placeAxes (set : CalSet) : Nat → List Axis → List Axis
  | 0, placed => placed
  | n + 1, placed =>
    match allAxes.find? (placeable set placed) with
    | some a => placeAxes set n (placed ++ [a])
    | none => placed

/-- The worklist (R162). -/
def worklistOf (set : CalSet) : List Axis := placeAxes set 6 []

/-! ### What the Planner notes of sensor events (R161) -/

/-- Marks an axis disturbed, where its record is RESTORING and its first-read fine is present. -/
def State.noteDisturbed (s : State) (a : Axis) : State :=
  if (s.record a).state = .restoring ∧ (s.planner.firstFine.get a).isSome
  then s.setPlanner { s.planner with disturbed := s.planner.disturbed.set a true } else s

/-- Notes a good read that starts tracking from STARTING or LOST, where the record is RESTORING (R161). -/
def State.noteRead (s : State) (a : Axis) (fine : Nat) : State :=
  if (s.record a).state = .restoring then
    match s.planner.firstFine.get a with
    | none => s.setPlanner { s.planner with firstFine := s.planner.firstFine.set a (some fine) }
    | some _ => s.setPlanner { s.planner with disturbed := s.planner.disturbed.set a true }
  else s

end Sys2Proof.Machine
end

