-- ==== Sys2Proof/Machine/Sensors.lean ====
section
/-! DEFINITION. The Sensor Interface: unpacking, failed and good reads, turn tracking, index crossings, rest detection, the
switch and brake filters, coarse sampling and the running cross-check (R18, R21, R28 to R45). -/
namespace Sys2Proof.Machine

/-! ### Unpacking (R29, R30) -/

/-- The fine angle of a good read, or none for a failed one: the frame is whole, the check matches, the status is 0. -/
def unpack (p : SensorProfile) (frame : List Bool) : Option Nat :=
  let body := frame.drop p.startGap
  let fine := body.take p.fineWidth
  let status := (body.drop p.fineWidth).take p.statusWidth
  let check := (body.drop (p.fineWidth + p.statusWidth)).take 8
  if p.startGap + p.fineWidth + p.statusWidth + 8 ≤ frame.length
      ∧ natOfBits check = (crc8 (fine ++ status)).toNat ∧ natOfBits status = 0
  then some (natOfBits fine) else none

/-! ### Loss events on a record (R21, R34, R35) -/

/-- A loss event taken by the record together with the turn and fine that the Sensor Interface leaves (R21, R34, R35):
a framed axis loses its frame, a HOMING axis's run ends, a RESTORING axis is noted by the Planner, and an UNREFERENCED
axis keeps its state. A change of motor count is tested against the reference entry (R25, R152). -/
def State.lossEvent (s : State) (a : Axis) (cause : LossCause) (turn : Int) (fine : Nat) : State :=
  let old := s.record a
  let moved := { old with turn := turn, fine := fine }
  let s1 := s.commitRecord a (if old.state.framed then moved.loseFrame cause else moved)
  let s2 := if old.turn ≠ turn ∨ old.fine ≠ fine then s1.motionTest a else s1
  match old.state with
  | .homing => s2.loseRun a
  | .restoring => s2.noteDisturbed a
  | .unreferenced | .provisional | .referenced | .suspect => s2

/-! ### Rest detection (R38) -/

/-- Takes a fresh rest anchor at the present motor count (R32, R34, R35, R38). -/
def State.anchorHere (s : State) (a : Axis) : State :=
  s.setSensor a { s.sensor a with restAnchor := some (s.count a), restStart := some s.now }

/-- The time after which an axis within its band is at rest: 20 ms (R38). -/
def restTime : Micros := 20000

/-- Rest detection on a good read (R38). -/
def State.detectRest (s : State) (a : Axis) : State :=
  let x := s.sensor a
  match x.restAnchor with
  | none => s.anchorHere a
  | some anchor =>
    if (s.count a - anchor).natAbs ≤ (s.calOf a).restBand then
      (if restTime ≤ s.now - x.restStart.getD s.now then s.setAtRest a true else s)
    else (s.anchorHere a).setAtRest a false

/-! ### Index crossings (R37) -/

/-- The crossing count of an advance, if the watch finds one (R37). -/
def crossingCount (w : IndexWatch) (ref cpt : Nat) (old new : Int) : Option Int :=
  match w with
  | .off => none
  | .positive =>
    let c := old + 1 + ((ref : Int) - (old + 1)).emod (cpt : Int)
    if old < new ∧ c ≤ new then some c else none
  | .negative =>
    let c := old - 1 - ((old - 1) - (ref : Int)).emod (cpt : Int)
    if new < old ∧ new ≤ c then some c else none

/-- Tests an advance for a crossing: the watch goes OFF and the crossing is handed to the Homing Sequencer (R37). -/
def State.testCrossing (s : State) (a : Axis) (old new : Int) : State :=
  match crossingCount (s.sensor a).indexWatch (s.calOf a).refCount (s.cpt a) old new with
  | none => s
  | some c => (s.setWatch a .off).indexCrossing a c

/-! ### Reads (R31 to R35) -/

/-- The axis has lost its sensor: watch OFF, AT_REST clear, no anchor, and SENSOR_LOST handed on (R31). -/
def State.sensorLost (s : State) (a : Axis) : State :=
  let s1 := s.setSensor a { s.sensor a with
    readStatus := .lost, failedReads := 3, indexWatch := .off, restAnchor := none, restStart := none }
  let s2 := s1.lossEvent a .sensorLost (s1.record a).turn (s1.record a).fine
  s2.setAtRest a false

/-- A failed read (R30, R31). -/
def State.failedRead (s : State) (a : Axis) : State :=
  let s := s.commitRecord a { s.record a with sticky := { (s.record a).sticky with frameError := true } }
  let x := s.sensor a
  match x.readStatus with
  | .lost => s
  | .starting | .tracking =>
    if x.failedReads + 1 < 3 then s.setSensor a { x with failedReads := x.failedReads + 1 } else s.sensorLost a

/-- A good read that starts tracking, in STARTING or LOST (R32). -/
def State.startTracking (s : State) (a : Axis) (fine : Nat) : State :=
  let s1 := s.setSensor a { s.sensor a with readStatus := .tracking, failedReads := 0 }
  let s2 := s1.noteRead a fine
  let s3 := (s2.commitRecord a { s2.record a with fine := fine }).reevaluate a false
  (s3.motionTest a).anchorHere a

/-- A read from which tracking restarts: the count of failed reads is 0, the watch OFF, AT_REST clear and the anchor
fresh (R34, R35). -/
def State.restartTracking (s : State) (a : Axis) : State :=
  let s := s.setSensor a { s.sensor a with failedReads := 0, indexWatch := .off }
  (s.anchorHere a).setAtRest a false

/-- An advance of the motor count (R33, R37, R38). -/
def State.advanceCount (s : State) (a : Axis) (turn : Int) (fine : Nat) : State :=
  let old := s.count a
  let moved := decide ((s.record a).turn ≠ turn ∨ (s.record a).fine ≠ fine)
  let s1 := s.setSensor a { s.sensor a with failedReads := 0 }
  let s2 := s1.commitRecord a { s1.record a with turn := turn, fine := fine }
  let s3 := if moved then (s2.motionTest a).testCrossing a old (motorCount turn fine (s.cpt a)) else s2
  s3.detectRest a

/-- A good read in TRACKING (R33 to R35). -/
def State.trackRead (s : State) (a : Axis) (fine : Nat) : State :=
  let r := s.record a
  let cpt := s.cpt a
  let delta := bringIntoTurn ((fine : Int) - (r.fine : Int)) cpt
  let k := (s.sensor a).failedReads + 1
  let raw : Int := (r.fine : Int) + delta
  let turn := if (cpt : Int) ≤ raw then r.turn + 1 else if raw < 0 then r.turn - 1 else r.turn
  if k * cpt < delta.natAbs * 8 then (s.lossEvent a .trackLost r.turn fine).restartTracking a
  else if ¬ turnInRange turn then (s.lossEvent a .turnRange 0 fine).restartTracking a
  else s.advanceCount a turn fine

/-- A read event of a poll that is not discarded (R28, R30). -/
def State.takeRead (s : State) (a : Axis) (frame : List Bool) : State :=
  match unpack (s.calOf a).profile frame with
  | none => s.failedRead a
  | some fine =>
    match (s.sensor a).readStatus with
    | .starting | .lost => s.startTracking a fine
    | .tracking => s.trackRead a fine

/-- A poll that began before the last change of the axis's profile is discarded (R28, log 11). R28 speaks of polls begun before and after the
commit; one that begins in the same µs as the commit is taken as begun under the new profile: the model's choice, log 47. -/
def State.pollDiscarded (s : State) (a : Axis) (began : Micros) : Bool :=
  match (s.sensor a).profileChangedAt with
  | some t => decide (began < t)
  | none => false

/-! ### Home switches and brakes (R39, R40) -/

/-- Sets the filtered level, makes the candidate absent, and hands on the switch event (R39). -/
def State.setSwitch (s : State) (a : Axis) (level : SwitchLevel) : State :=
  (s.setSensor a { s.sensor a with switchLevel := level, switchSampled := true, switchCandidate := none }).switchEvent a level

/-- A sample of the home switch that differs from the filtered level (R39). -/
def State.switchDiffers (s : State) (a : Axis) (level : SwitchLevel) : State :=
  let x := s.sensor a
  let since := match x.switchCandidate with
    | some (_, t) => t
    | none => s.now
  if ms (s.calOf a).switchFilter ≤ s.now - since then s.setSwitch a level
  else s.setSensor a { x with switchCandidate := some (level, since) }

/-- A sample of the home switch (R39): one equal to the level makes the candidate absent, the first since reset sets the level
directly, and any other that differs goes through the filter. -/
def State.sampleSwitch (s : State) (a : Axis) (level : SwitchLevel) : State :=
  let x := s.sensor a
  if x.switchLevel = level then s.setSensor a { x with switchCandidate := none, switchSampled := true }
  else if x.switchSampled then s.switchDiffers a level
  else s.setSwitch a level

/-- A sample of the brake (R40): the level changes when two consecutive samples agree and differ from it. -/
def State.sampleBrake (s : State) (a : Axis) (level : BrakeLevel) : State :=
  let x := s.sensor a
  let s1 := s.setSensor a { x with previousBrake := some level }
  if x.previousBrake = some level ∧ x.brakeLevel ≠ some level then
    (s1.setSensor a { s1.sensor a with brakeLevel := some level }).setBrake a (decide (level = .applied))
  else s1

/-! ### Coarse channels (R42) -/

/-- The mean of 16 codes rounded to the nearest code with ties to even; absent until the window is full (R42). -/
def coarseMean (w : List Nat) : Option Nat :=
  if w.length = 16 then some (roundHalfEven ((w.foldl (· + ·) 0 : Nat) : Int) 16).toNat else none

/-- A sample of the coarse channel (R42). -/
def State.sampleCoarse (s : State) (a : Axis) (code : Nat) : State :=
  let w := pushWindow 16 (s.sensor a).coarseWindow code
  s.setSensor a { s.sensor a with coarseWindow := w, coarseAverage := coarseMean w }

/-! ### Current samples (R129, R136, R137) -/

/-- The watch is WATCHING: the sample is tested and then recorded; contact is handed on (R136, R137). -/
def State.watchSample (s : State) (a : Axis) (m : Nat) : State :=
  let l := s.load a
  let n := testContact l m
  let hit := contactReached l n
  let s1 := s.setLoad a { l with
    contactWindow := pushWindow 32 l.contactWindow m, exceed := n, watch := if hit then .off else .watching }
  if hit then
    (s1.commitRecord a { s1.record a with sticky := { (s1.record a).sticky with contactSeen := true } }).contactEvent a
  else s1

/-- A current sample (R129). -/
def State.sampleCurrent (s : State) (a : Axis) (v : BitVec 16) : State :=
  let s1 := s.setLoad a { s.load a with window := pushWindow 32 (s.load a).window v }
  if (s1.load a).watch = .watching then s1.watchSample a (magnitude v) else s1

/-! ### The running cross-check (R18, R44, R45) -/

/-- The record of an axis after a disagreement (R18, R45). -/
def AxisRecord.disagree (r : AxisRecord) : AxisRecord :=
  let warned := { r with sticky := { r.sticky with coarseWarn := true } }
  match r.state with
  | .provisional | .referenced =>
    if r.disagreements + 1 < 4 then { warned with disagreements := r.disagreements + 1 }
    else { warned with disagreements := 4, state := .suspect, lossCause := .coarseDiverged }
  | .suspect | .unreferenced | .restoring | .homing => warned

/-- The record of an axis after an agreement (R45). -/
def AxisRecord.agree (r : AxisRecord) : AxisRecord :=
  match r.state with
  | .provisional | .referenced => { r with disagreements := 0 }
  | .suspect | .unreferenced | .restoring | .homing => r

/-- One axis of a cross-check (R44, R45). -/
def State.crossCheckAxis (s : State) (a : Axis) : State :=
  let r := s.record a
  match s.coarseJoint a, r.position with
  | some k, some p =>
    if r.state.framed && r.atRest then
      (if (s.calOf a).coarseTolerance < (p - k).natAbs then s.commitRecord a r.disagree else s.commitRecord a r.agree)
    else s
  | _, _ => s

/-- A cross-check of the six axes; the timer starts again (R44). -/
def State.crossCheck (s : State) : State :=
  allAxes.foldl State.crossCheckAxis { s with crossCheckTimer := crossCheckPeriod }

end Sys2Proof.Machine
end

