-- ==== Sys2Proof/Machine/PowerFail.lean ====
section
/-! DEFINITION. Resets, the start-up loads, the end of STARTUP and the power-fail warning (R13, R66, R100, R142, R144, R145,
R150, R151, R156, R157, R173). -/
namespace Sys2Proof.Machine

/-! ### Resets (R144, R156) -/

/-- The byte in progress over the retention link is completed, where there is one (R143, R144). -/
def State.completeByte (s : State) : State :=
  match s.link with
  | some x => s.writeRetention x.addr x.value
  | none => s

/-- Every block at its reset values: retention memory, the level inputs, the free-value counter and the queue of commands
are kept (R13, R27, R50, R67, R85, R101, R118, R128, R141, R160, R174). -/
def State.resetBlocks (s : State) : State :=
  { State.reset with
    supply := s.supply, resetInput := s.resetInput, freeCount := s.freeCount, cont := resetCont s.cont.pfw
    retention := s.retention, pending := s.pending }

/-! ### The start-up loads (R66, R100) -/

/-- The calibration region is good: format version 1, and a stored CRC-32 that matches the image (R66). -/
def calRegionGood (bs : List Byte) : Bool :=
  decide (bs.getD 0 0 = 1) && decide ((crc32 (slice bs 1 409)).toNat = natOfBytes (slice bs 410 4))

/-- The recipe region is good: format version 1, and a stored CRC-32 that matches the image (R100). -/
def recipeRegionGood (bs : List Byte) : Bool :=
  decide (bs.getD 0 0 = 1) && decide ((crc32 (slice bs 1 1936)).toNat = natOfBytes (slice bs 1937 4))

/-- The Calibration Store after its start-up load with a set (R50, R66). -/
def CalStore.loadedWith (set : CalSet) (v : Validity) (fp : BitVec 32) : CalStore :=
  { active := set, staging := set, axisEditor := PerAxis.const none, deviceEditor := none
    points := PerAxis.const ⟨none, none⟩, validity := v, fingerprint := fp, write := .none, loaded := true }

/-- The record of an axis whose calibration was found invalid at start-up: epoch kept (R13). -/
def AxisRecord.calInvalid (r : AxisRecord) : AxisRecord :=
  { r with state := .unreferenced, origin := .none, lossCause := .calibrationInvalid }

/-- CALIBRATION_INVALID on every record (R13, R66). -/
def State.allCalInvalid (s : State) : State :=
  allAxes.foldl (fun t a => t.commitRecord a (t.record a).calInvalid) s

/-- The start-up load of calibration, with which polling begins (R28, R66). -/
def State.loadCalibration (s : State) : State :=
  let bs := Memory.readBytes s.retention calibrationBase 414
  let s := { s with pollingSince := some s.now }
  if calRegionGood bs then
    s.setCal (CalStore.loadedWith (calSetOfImage (slice bs 1 409)) .valid (BitVec.ofNat 32 (natOfBytes (slice bs 410 4))))
  else (s.setCal (CalStore.loadedWith defaultCalSet .invalid defaultCalSet.fingerprint)).allCalInvalid

/-- The start-up load of the recipes (R100); a length byte above 12 and step records that R86 does not give make the region not good
(log 23). -/
def State.loadRecipes (s : State) : State :=
  let bs := Memory.readBytes s.retention recipeBase 1941
  match (if recipeRegionGood bs then recipesOfBytes 16 (slice bs 1 1936) else none) with
  | some rs => s.setRecipes { active := rs, staging := rs, validity := .valid, write := .none, loaded := true }
  | none =>
    s.setRecipes { active := emptyRecipes, staging := emptyRecipes, validity := .invalid, write := .none, loaded := true }

/-! ### The power-fail warning (R145, R150) -/

/-- Takes a PFW capture by the state of the capture (R145): a POWER_FAIL capture goes on and one more is owed; another is
abandoned and a POWER_FAIL capture started into the same slot (R150). -/
def State.pfwCapture (s : State) : State :=
  if s.cont.powerFailInFlight then s.setCont { s.cont with owed := true } else s.startCapture .powerFail

/-- A power-fail assertion by the device phase (R145). -/
def State.pfwAssertion (s : State) : State :=
  match s.cont.phase with
  | .running => (s.setCont { s.cont with phase := .holdup }).powerFailEvent.pfwCapture
  | .restoring => s.pfwCapture
  | .holdup => s.powerFailEvent.pfwCapture
  | .startup => s

/-- The level becomes ASSERTED; only a change is an assertion (R145). -/
def State.assertPfw (s : State) : State :=
  if s.cont.pfw then s else (s.setCont { s.cont with pfw := true }).pfwAssertion

/-- The level becomes DEASSERTED: the phase HOLDUP ends where no capture is in flight (R151). -/
def State.deassertPfw (s : State) : State := (s.setCont { s.cont with pfw := false }).endHoldup

/-- A level that is ASSERTED when the phase leaves STARTUP is taken as an assertion in the new phase (R145, R156). -/
def State.assertionAtStart (s : State) : State := if s.cont.pfw then s.pfwAssertion else s

/-! ### The end of STARTUP (R142, R157, R173) -/

/-- What the Planner keeps of a source slot (R157). -/
def sourceEntriesOf (src : Option Slot) (a b : SlotImage) : Option SourceEntries :=
  match src with
  | none => none
  | some .a => some { entries := a.entries, marks := a.marks }
  | some .b => some { entries := b.entries, marks := b.marks }

/-- The newest slot of the directory: the source slot, otherwise the newest COMMITTED slot whose CRC matches (R142, R159). -/
def directoryNewest (src : Option Slot) (a b : SlotImage) (va vb : Verdict) : Option Slot :=
  match src with
  | some sl => some sl
  | none => newestIntact a b va vb

/-- MOVING_SINCE_CAPTURE after the examination: set where the entry in the newest slot carries a mark, and in every record
when there is no newest slot (R142). -/
def movingAfterExamination (c : Continuity) : AxisSet :=
  match c.newest with
  | some sl => (c.slot sl).marks
  | none => PerAxis.const true

/-- Steps 2 to 4 of R157: the verdicts, the source slot, the source entries and the slot directory. -/
def State.examineSlots (s : State) : State :=
  let a := s.readSlot .a
  let b := s.readSlot .b
  let va := a.verdict s.cal.fingerprint
  let vb := b.verdict s.cal.fingerprint
  let src := sourceSlot a b va vb
  let s1 := s.setPlanner { s.planner with
    verdictA := some va, verdictB := some vb, source := src, entries := sourceEntriesOf src a b }
  let s2 := s1.setCont { s1.cont with
    slotA := a.dirEntry va, slotB := b.dirEntry vb, newest := directoryNewest src a b va vb }
  s2.setAllMoving (movingAfterExamination s2.cont)

/-- A recovery record of an axis that recovery did not attempt (R173). -/
def notAttempted (src : Option Slot) : RecoveryRecord :=
  { outcome := .notAttempted, reason := some .calibrationInvalid, path := none, delta := none, window := none
    turn := none, source := src }

/-- The sensor wait: 100 ms (R157). -/
def sensorWaitTime : Micros := 100000

/-- Step 5 of R157 with an INVALID calibration: no recovery is made (R173). -/
def State.startWithout (s : State) : State :=
  let s1 := s.setPlanner { s.planner with outcomes := PerAxis.const (notAttempted s.planner.source) }
  let s2 := s1.emit (.recoveryDone (PerAxis.const none))
  (((s2.setCont { s2.cont with phase := .running }).wantParkTest).assertionAtStart)

/-- Step 5 of R157 with a VALID calibration: the worklist, the sensor wait timer, the phase RESTORING, an assertion that
waits (R145, log 13), and the heads that can be decided at once (R163). -/
def State.startRecovery (s : State) : State :=
  let s1 := s.setPlanner { s.planner with
    worklist := worklistOf s.cal.active, sensorWait := .running sensorWaitTime }
  ((s1.setCont { s1.cont with phase := .restoring }).assertionAtStart).takeWorklist

/-- The end of STARTUP (R157). -/
def State.completeStartup (s : State) : State :=
  let s := s.examineSlots
  match s.cal.validity with
  | .valid => s.startRecovery
  | .invalid => s.startWithout

end Sys2Proof.Machine
end

