-- ==== Sys2Proof/Machine/Reports.lean ====
section
/-! DEFINITION. Reports: which ports receive which events, the gathering of one command's events into one delivery, the
queue and the alert line (R186 to R191), and the end of every command. -/
namespace Sys2Proof.Machine

/-! ### Sets of causes -/

/-- The cause of an event (R186, R188). -/
def ReportEvent.cause : ReportEvent → Cause
  | .axisState _ => .axisState
  | .runEnd .. => .runEnd
  | .moveOrder => .moveOrder
  | .permitWanted .. => .permitWanted
  | .ackWanted .. => .ackWanted
  | .snapshot => .snapshot
  | .calCommitted .. => .calCommitted
  | .recoveryDone _ => .recoveryDone
  | .channelBlocked .. => .channelBlocked

/-- Membership in a set of causes. -/
def CauseSet.has (c : CauseSet) : Cause → Bool
  | .axisState => c.axisState
  | .runEnd => c.runEnd
  | .moveOrder => c.moveOrder
  | .permitWanted => c.permitWanted
  | .ackWanted => c.ackWanted
  | .snapshot => c.snapshot
  | .calCommitted => c.calCommitted
  | .recoveryDone => c.recoveryDone
  | .channelBlocked => c.channelBlocked

/-- The set with a cause added. -/
def CauseSet.add (c : CauseSet) : Cause → CauseSet
  | .axisState => { c with axisState := true }
  | .runEnd => { c with runEnd := true }
  | .moveOrder => { c with moveOrder := true }
  | .permitWanted => { c with permitWanted := true }
  | .ackWanted => { c with ackWanted := true }
  | .snapshot => { c with snapshot := true }
  | .calCommitted => { c with calCommitted := true }
  | .recoveryDone => { c with recoveryDone := true }
  | .channelBlocked => { c with channelBlocked := true }

/-- The port of a port that can hold authority. -/
def Claimant.port : Claimant → Port
  | .motion => .motion
  | .cell => .cell

/-! ### Delivery (R188) -/

/-- A subscribed delivery: the port's cause mask holds the cause. -/
def PortState.subscribes (x : PortState) (e : ReportEvent) : Bool := x.causeMask.has e.cause

/-- Whether an event is delivered to a port (R188). -/
def delivered (p : Port) (x : PortState) (e : ReportEvent) : Bool :=
  match e with
  | .axisState a => x.subscribes e && x.axisMask.get a
  | .runEnd a owner _ _ => decide (owner.port = p) || (x.subscribes e && x.axisMask.get a)
  | .moveOrder => decide (p = .motion)
  | .permitWanted .. => decide (p = .safety)
  | .ackWanted .. => decide (p = .safety)
  | .snapshot => decide (p = .cell) && x.subscribes e
  | .calCommitted .. => x.subscribes e
  | .recoveryDone _ => true
  | .channelBlocked .. => decide (p = .motion) || decide (p = .safety)

/-- A report record with nothing in it but an axis list. -/
def emptyReport (axes : PerAxis (Option AxisView)) : ReportRecord :=
  { causes := noCauses, axisList := axes, runResults := PerAxis.const none, permitWanted := PerAxis.const none
    ackWanted := PerAxis.const none, blocked := none, committedAxes := PerAxis.const false, committedDevice := false }

/-- The later entries of a list, or the earlier where there is none (R187). -/
def laterOf {α : Type} (old new : PerAxis (Option α)) : PerAxis (Option α) :=
  PerAxis.of fun a => match new.get a with
    | some x => some x
    | none => old.get a

/-- A set of axes joined to another. -/
def unionAxes (x y : AxisSet) : AxisSet := PerAxis.of fun a => x.get a || y.get a

/-- Some axis of a list holds an entry. -/
def anyEntry {α : Type} (v : PerAxis (Option α)) : Bool := v.toList.any Option.isSome

/-- Puts an event into a record: its cause and what it carries (R187, R188). A RECOVERY_DONE with a nonempty list adds
ACK_WANTED and its pairs on the Safety Port. -/
def ReportRecord.put (r : ReportRecord) (p : Port) (e : ReportEvent) : ReportRecord :=
  let r := { r with causes := r.causes.add e.cause }
  match e with
  | .axisState _ | .moveOrder | .snapshot => r
  | .runEnd a _ id res => { r with runResults := r.runResults.set a (some (id, res)) }
  | .permitWanted a id => { r with permitWanted := r.permitWanted.set a (some id) }
  | .ackWanted a ep => { r with ackWanted := r.ackWanted.set a (some ep) }
  | .calCommitted axes dev =>
    { r with committedAxes := unionAxes r.committedAxes axes, committedDevice := r.committedDevice || dev }
  | .recoveryDone pairs =>
    if decide (p = .safety) && anyEntry pairs
    then { r with causes := r.causes.add .ackWanted, ackWanted := laterOf r.ackWanted pairs } else r
  | .channelBlocked a id => { r with blocked := some (a, id) }

/-- The axis-list values of a record (R187). -/
def AxisRecord.view (r : AxisRecord) : AxisView :=
  { state := r.state, epoch := r.epoch, position := r.position, atRest := r.atRest, brakeApplied := r.brakeApplied
    beyondLimit := r.beyondLimit, movingSinceCapture := r.movingSinceCapture, sticky := r.sticky }

/-- The axis list for the axes of a subscription, taken at this moment (R187, R189). -/
def State.axisList (s : State) (mask : AxisSet) : PerAxis (Option AxisView) :=
  PerAxis.of fun a => if mask.get a then some (s.record a).view else none

/-- Updates the newest record of a full queue (R189). -/
def updateLast (f : ReportRecord → ReportRecord) : List ReportRecord → List ReportRecord
  | [] => []
  | [r] => [f r]
  | r :: rest => r :: updateLast f rest

/-- The report queue's capacity (R174, R184). -/
def queueCapacity : Nat := 4

/-- The events that a port receives of those handed on, after those gathered for it before (R188, R190). -/
def gatherFor (p : Port) (events : List ReportEvent) (x : PortState) : PortState :=
  { x with gathered := x.gathered ++ events.filter (delivered p x) }

/-- One delivery to a port's queue (R189): a new record while it holds 0 to 3, otherwise an update of the newest. -/
def deliverTo (p : Port) (axes : PerAxis (Option AxisView)) (events : List ReportEvent) (x : PortState) : PortState :=
  let fill := fun (r : ReportRecord) => events.foldl (fun acc e => acc.put p e) r
  if events.isEmpty then x
  else if x.queue.length < queueCapacity
  then { x with queue := x.queue ++ [fill (emptyReport axes)], alert := true }
  else { x with queue := updateLast (fun r => fill { r with axisList := axes }) x.queue }

/-- The gathered events of a port reach its queue as one delivery (R189). -/
def PortState.flush (x : PortState) (p : Port) (axes : PerAxis (Option AxisView)) : PortState :=
  { deliverTo p axes x.gathered x with gathered := [] }

/-- In STARTUP no delivery reaches a queue: what is handed on there joins the first delivery made after it (R190, log 25). -/
def State.holdsReports (s : State) : Bool := decide (s.cont.phase = .startup)

/-- What the events of a command come to at one port: one delivery (R189). In RESTORING a command of which the port receives nothing makes
none, and what was gathered in STARTUP waits on. -/
def State.deliverPort (s : State) (p : Port) : PortState :=
  let x := gatherFor p s.outbox (s.port p)
  let waits := s.holdsReports || (decide (s.cont.phase = .restoring) && !s.outbox.any (delivered p (s.port p)))
  if waits then x else x.flush p (s.axisList x.axisMask)

/-- Delivers the events of a command to the three ports, each as one delivery (R189). -/
def State.deliver (s : State) : State :=
  { s with ports := ⟨s.deliverPort .motion, s.deliverPort .safety, s.deliverPort .cell⟩, outbox := [] }

/-! ### The whole of a command -/

/-- What ends every command that has an effect: the park test (R147), the delivery of its events (R189), and the arbiter (R143). The axes
that it outdated join those of this µs (R148, log 39). -/
def State.finish (s : State) : State :=
  { s.parkTest.deliver with
    parkTestDue := false, outdatedHere := PerAxis.const false, outdatedNow := unionAxes s.outdatedNow s.outdatedHere }.serve

/-- A command with an effect on the blocks: it begins with nothing gathered, and ends as every command does. -/
def State.event (f : State → State) (s : State) : State :=
  (f { s with outbox := [], parkTestDue := false, outdatedHere := PerAxis.const false }).finish

end Sys2Proof.Machine
end

