-- ==== Sys2Proof/Machine/Payloads.lean ====
section
/-! DEFINITION. The payloads of the responses (R194, R195). -/
namespace Sys2Proof.Machine

/-- A reported position: INDEFINITE is 0x80000000 (R192). -/
def positionBytes : Option Int → List Byte
  | some v => beInt 4 v
  | none => be 4 0x80000000

/-- Current flags: AT_REST bit 0 to MOVING_SINCE_CAPTURE bit 3 (R194). -/
def currentFlags (atRest brake beyond moving : Bool) : Byte := byte (maskOf [atRest, brake, beyond, moving])

/-- The nineteen bytes of an axis record (R194). -/
def AxisRecord.bytes (r : AxisRecord) : List Byte :=
  [byte r.state.code, byte r.origin.code, byte r.lossCause.code] ++ beInt 2 r.turn ++ be 3 r.fine ++ be 2 r.epoch.toNat
    ++ [byte r.loadClass.code, currentFlags r.atRest r.brakeApplied r.beyondLimit r.movingSinceCapture
      , byte r.sticky.toMask, byte r.disagreements, byte (r.runId.getD 0)]
    ++ positionBytes r.position

/-- READ_AXES: the six records in axis order (R185). -/
def State.axesPayload (s : State) : List Byte := s.records.toList.flatMap AxisRecord.bytes

/-! ### READ_RUN (R105, R195) -/

/-- The run bits: L0, L1, marked, latch present, step start time present, pending result present. -/
def runBits (r : Run) : Nat :=
  maskOf [r.l0, r.l1, r.marked, r.latch.isSome, r.stepStart.isSome, r.pendingResult.isSome]

/-- Time elapsed since a start, in whole ms rounded down. -/
def elapsedMs (now : Micros) : Option Micros → Nat
  | some t => (now - t) / 1000
  | none => 0

/-- The code of an optional run result, zero when absent. -/
def resultCodeOf : Option RunResult → Nat
  | some x => x.code
  | none => 0

/-- The items of a run record, zeros when there is none. -/
def runBytes (a : Axis) (now : Micros) : Option Run → List Byte
  | some r =>
    [byte 1, byte (axisNumber a), byte r.runId, byte r.owner.code, byte r.recipeIndex, byte r.position
      , byte r.phase.code, byte (runBits r)]
      ++ beInt 6 (r.latch.getD 0) ++ [byte (r.orderId.getD 0)] ++ be 4 (elapsedMs now r.stepStart)
      ++ [byte (resultCodeOf r.pendingResult)]
  | none => List.replicate 20 (byte 0)

/-- The place of an axis in the wait queue, counted from 1, and 0 when it is not in it. -/
def placeInQueue (a : Axis) : List Axis → Nat → Nat
  | [], _ => 0
  | b :: rest, n => if b = a then n else placeInQueue a rest (n + 1)

/-- The last-run entry: run id and result, zeros when absent. -/
def lastRunBytes : Option (Nat × RunResult) → List Byte
  | some (i, x) => [byte i, byte x.code]
  | none => [byte 0, byte 0]

/-- READ_RUN (R105). -/
def State.runPayload (s : State) (a : Axis) : List Byte :=
  runBytes a s.now (s.run a) ++ [byte (placeInQueue a s.channel.queue 1)] ++ lastRunBytes (s.lastRuns.get a)

/-! ### READ_RECOVERY (R168, R195) -/

/-- The fourteen bytes of a recovery record. -/
def RecoveryRecord.bytes (r : RecoveryRecord) : List Byte :=
  [byte r.outcome.code, byte (reasonCode r.reason), byte (snapPathCode r.path)
    , byte (maskOf [r.delta.isSome, r.turn.isSome])]
    ++ beInt 4 (r.delta.getD 0) ++ be 3 (r.window.getD 0) ++ beInt 2 (r.turn.getD 0) ++ [byte (slotCode r.source)]

/-- The worklist: its count, then six axis bytes, unused ones 0. -/
def worklistBytes (w : List Axis) : List Byte :=
  byte w.length :: ((w.map fun a => byte (axisNumber a)) ++ List.replicate (6 - w.length) (byte 0))

/-- READ_RECOVERY (R168). -/
def State.recoveryPayload (s : State) : List Byte :=
  s.planner.outcomes.toList.flatMap RecoveryRecord.bytes
    ++ [byte (verdictCode s.planner.verdictA), byte (verdictCode s.planner.verdictB), byte (slotCode s.planner.source)]
    ++ worklistBytes s.planner.worklist ++ [byte s.planner.sensorWait.code, byte s.cont.phase.code]

/-! ### READ_SLOTS (R155, R195) -/

/-- The twelve bytes of a slot. -/
def slotBytes (d : DirEntry) (v : Option Verdict) : List Byte :=
  [byte d.state.code] ++ be 4 d.sequence.toNat ++ [d.reason] ++ be 4 d.fingerprint.toNat
    ++ [byte d.marks.toMask, byte (verdictCode v)]

/-- The capture in flight: state, reason, target slot and sequence, zeros when IDLE. -/
def captureBytes : Option Capture → List Byte
  | some c => [byte 1, byte c.buffer.reason.code, byte (slotCode (some c.target))] ++ be 4 c.buffer.sequence.toNat
  | none => List.replicate 7 (byte 0)

/-- The byte that carries the number of waiting slot writes (R155, R195). Nothing bounds that list, to which each DISCARD_SNAPSHOTS adds two
(R141, R154), and the manual does not say what the byte holds beyond 255: a free value, the model's choice, log 49. -/
def slotWritesByte (n : Nat) : Byte := if n < 256 then byte n else Config.longCount n

/-- READ_SLOTS (R155); the number of waiting slot writes beyond 255 is a free value (log 49). -/
def State.slotsPayload (s : State) : List Byte :=
  let c := s.cont
  slotBytes c.slotA s.planner.verdictA ++ slotBytes c.slotB s.planner.verdictB ++ [byte (slotCode c.newest)]
    ++ captureBytes c.capture
    ++ [byte c.pendingMarks.toMask, slotWritesByte c.waitingSlotWrites.length, byte c.waitingMarks.length
      , byte s.cal.write.code, byte s.recipes.write.code, byte c.phase.code, flagByte c.pfw]

/-! ### READ_CAL (R51, R195) -/

/-- A capture point: present, code, joint value; zeros when absent. -/
def pointBytes : Option CapturePoint → List Byte
  | some x => [byte 1] ++ be 2 x.code ++ beInt 4 x.joint
  | none => List.replicate 7 (byte 0)

/-- The fields of a part of a set. -/
def CalSet.partBytes (c : CalSet) : CalPart → List Byte
  | .device => c.device.image
  | .axis a => (c.axes.get a).image

/-- The set that a request names. -/
def CalStore.named (c : CalStore) : SetName → CalSet
  | .active => c.active
  | .staging => c.staging

/-- The editor of a part. -/
def CalStore.editorOf (c : CalStore) : CalPart → Option Claimant
  | .device => c.deviceEditor
  | .axis a => c.axisEditor.get a

/-- The editor and, for an axis, the capture points; zeros in a read of ACTIVE. -/
def CalStore.editBytes (c : CalStore) (set : SetName) (part : CalPart) : List Byte :=
  match set, part with
  | .active, .device => [byte 0]
  | .active, .axis _ => byte 0 :: List.replicate 14 (byte 0)
  | .staging, .device => [byte (claimCode c.deviceEditor)]
  | .staging, .axis a =>
    byte (claimCode (c.axisEditor.get a)) :: (pointBytes (c.points.get a).point1 ++ pointBytes (c.points.get a).point2)

/-- READ_CAL (R51). -/
def CalStore.payload (c : CalStore) (set : SetName) (part : CalPart) : List Byte :=
  [byte c.validity.code] ++ be 4 c.fingerprint.toNat ++ (c.named set).partBytes part ++ c.editBytes set part

/-! ### READ_STEP (R96, R195) -/

/-- The recipe of a set. -/
def RecipeStore.recipe (r : RecipeStore) (set : SetName) (i : Nat) : List Step :=
  match set with
  | .active => r.active.getD i []
  | .staging => r.staging.getD i []

/-- READ_STEP (R96). -/
def RecipeStore.payload (r : RecipeStore) (set : SetName) (i pos : Nat) : List Byte :=
  let steps := r.recipe set i
  [byte steps.length]
    ++ (match steps[pos]? with
        | some st => byte 1 :: st.bytes
        | none => byte 0 :: List.replicate 10 (byte 0))
    ++ [byte r.validity.code, byte r.write.code]

/-! ### READ_REPORT (R187, R194) -/

/-- A list with its count, in axis order. -/
def listBytes {α : Type} (v : PerAxis (Option α)) (f : Axis → α → List Byte) : List Byte :=
  let entries := allAxes.filterMap fun a => (v.get a).map (f a)
  byte entries.length :: entries.flatten

/-- One axis of the axis list. -/
def viewBytes (a : Axis) (x : AxisView) : List Byte :=
  [byte (axisNumber a), byte x.state.code] ++ be 2 x.epoch.toNat ++ positionBytes x.position
    ++ [currentFlags x.atRest x.brakeApplied x.beyondLimit x.movingSinceCapture, byte x.sticky.toMask]

/-- A report record (R194). -/
def ReportRecord.bytes (r : ReportRecord) : List Byte :=
  be 2 r.causes.toMask ++ listBytes r.axisList viewBytes
    ++ listBytes r.runResults (fun a x => [byte (axisNumber a), byte x.1, byte x.2.code])
    ++ listBytes r.permitWanted (fun a x => [byte (axisNumber a), byte x])
    ++ listBytes r.ackWanted (fun a x => byte (axisNumber a) :: be 2 x.toNat)
    ++ (match r.blocked with
        | some (a, i) => [byte (axisNumber a), byte i]
        | none => [byte 0, byte 0])
    ++ [byte r.committedAxes.toMask, flagByte r.committedDevice]

/-! ### IDENTIFY (R184, R195) -/

/-- IDENTIFY on a port (R184). -/
def State.identifyPayload (s : State) (p : Port) : List Byte :=
  be 2 0x0640 ++ [byte 1, byte 1, byte 6, byte 120, byte queueCapacity, byte (portCode p), byte s.cont.phase.code
      , flagByte s.cont.pfw, byte s.cal.validity.code]
    ++ be 4 s.cal.fingerprint.toNat
    ++ [byte s.recipes.validity.code, byte (verdictCode s.planner.verdictA), byte (verdictCode s.planner.verdictB)
      , byte (slotCode s.cont.newest), byte s.channel.slot.code]
    ++ be 2 (s.port p).frameErrors ++ [byte (s.port p).queue.length]

/-! ### READ_MOVE_ORDER (R121, R195) -/

/-- The order's items, zeros when the slot is EMPTY. -/
def orderBytes (detached : Bool) : Option Order → List Byte
  | some o =>
    [byte o.orderId, byte o.runId, byte (axisNumber o.axis), byte o.kind.code
      , byte ((o.direction.map Direction.code).getD 0)]
      ++ be 2 (o.speed.getD 0) ++ be 4 (o.distance.getD 0) ++ [flagByte o.stop, flagByte detached]
      ++ be 2 o.contactMargin ++ [byte o.contactCount, byte o.rampIgnore, byte (o.loadDelay.getD 0 / 10)]
  | none => List.replicate 18 (byte 0)

/-- READ_MOVE_ORDER (R121). -/
def MoveChannel.payload (c : MoveChannel) : List Byte := byte c.slot.code :: orderBytes c.detached c.order

/-! ### The Authority Table (R73, R195) -/

/-- The four bytes of an entry. -/
def AuthEntry.bytes (x : AuthEntry) : List Byte :=
  [byte (claimCode x.claim), byte (if x.inhibited then 0 else 1), byte x.permit.code, byte (x.permitRun.getD 0)]

/-- The state of the Authority Table, and the axes of the mask held by the other port (R73). -/
def State.authPayload (s : State) (heldByOther : AxisSet) : List Byte :=
  s.authority.toList.flatMap AuthEntry.bytes ++ [byte heldByOther.toMask]

end Sys2Proof.Machine
end

