-- ==== Sys2Proof/Machine/AuthorityRequests.lean ====
section
/-! DEFINITION. The meanings of the requests of the Authority Table: claims, inhibits, acknowledgements and permits (R69 to R82). -/
namespace Sys2Proof.Machine

/-! ### Changes of authority (R53, R68, R72) -/

/-- The edit on an axis is discarded (R53, R54). -/
def CalStore.discardAxis (c : CalStore) (a : Axis) : CalStore :=
  { c with staging := { c.staging with axes := c.staging.axes.set a (c.active.axes.get a) }
           points := c.points.set a ⟨none, none⟩, axisEditor := c.axisEditor.set a none }

/-- The authority-change event of an axis: an edit held by another port than the new authority is discarded (R53). -/
def State.dropEdit (s : State) (a : Axis) : State :=
  match s.cal.axisEditor.get a with
  | some e => if e = s.authorityOf a then s else s.setCal (s.cal.discardAxis a)
  | none => s

/-- Sets the claim of an axis and hands on the authority-change event where the effective authority changes (R68). -/
def State.setClaim (s : State) (a : Axis) (c : Option Claimant) : State :=
  let old := s.authorityOf a
  let s1 := s.setAuth a { s.auth a with claim := c }
  if s1.authorityOf a = old then s1 else s1.dropEdit a

/-- A release event for the run of an axis that a port owns (R72). -/
def State.releaseRunOf (s : State) (a : Axis) (owner : Claimant) : State :=
  match s.run a with
  | some r => if r.owner = owner then s.abortRun a .released else s
  | none => s

/-- The axes of a mask claimed by the other of the Motion and Cell ports (R69, R70, R73). -/
def State.heldByOther (s : State) (c : Claimant) (m : AxisSet) : AxisSet :=
  PerAxis.of fun a => m.get a && (match (s.auth a).claim with
    | some x => decide (x ≠ c)
    | none => false)

/-- Some axis is in the set. -/
def AxisSet.nonempty (m : AxisSet) : Bool := m.toList.any id

/-- DONE with the state of the Authority Table (R73). -/
def State.answerTable (s : State) (p : Port) (tag : Byte) : State :=
  s.answer p tag .done (s.authPayload (PerAxis.const false))

/-! ### CLAIM, RELEASE, FORCE_RELEASE -/

/-- CLAIM of one axis: the claim, and the release event where the authority moves away from the owner of its run (R69, R72). -/
def State.claimAxis (c : Claimant) (s : State) (a : Axis) : State :=
  let old := s.authorityOf a
  let s1 := s.setClaim a (some c)
  if old = c then s1 else s1.releaseRunOf a old

/-- RELEASE of one axis (R70). -/
def State.releaseAxis (c : Claimant) (s : State) (a : Axis) : State :=
  if (s.auth a).claim = some c then (s.setClaim a none).releaseRunOf a c else s

/-- FORCE_RELEASE of one axis (R71). -/
def State.forceReleaseAxis (s : State) (a : Axis) : State := (s.setClaim a none).abortRun a .released

/-- The checks that CLAIM and RELEASE share (R69, R70), and the effect on the axes of the mask. -/
def State.claimRequest (s : State) (p : Port) (tag : Byte) (payload : List Byte)
    (effect : Claimant → State → Axis → State) : State :=
  match claimantOf p with
  | none => s.answer p tag .notPermitted []
  | some c =>
    match formMask payload with
    | none => s.answer p tag .range []
    | some m =>
      if (s.heldByOther c m).nonempty then s.answer p tag .denied (s.authPayload (s.heldByOther c m))
      else s.event fun t => (m.members.foldl (effect c) t).answerTable p tag

/-- CLAIM (R69). -/
def execClaim (p : Port) (tag : Byte) (payload : List Byte) (s : State) : Host.Outcome State Fault Refusal :=
  whenActing (fun s => s.claimRequest p tag payload State.claimAxis) s

/-- RELEASE (R70). -/
def execRelease (p : Port) (tag : Byte) (payload : List Byte) (s : State) : Host.Outcome State Fault Refusal :=
  whenActing (fun s => s.claimRequest p tag payload State.releaseAxis) s

/-- The checks that FORCE_RELEASE, INHIBIT and UNINHIBIT share (R71, R74, R76), and the effect on the axes of the mask. -/
def State.safetyMaskRequest (s : State) (p : Port) (tag : Byte) (payload : List Byte)
    (effect : State → Axis → State) : State :=
  if p ≠ .safety then s.answer p tag .notPermitted []
  else
    match formMask payload with
    | none => s.answer p tag .range []
    | some m => s.event fun t => (m.members.foldl effect t).answerTable p tag

/-- FORCE_RELEASE (R71). -/
def execForceRelease (p : Port) (tag : Byte) (payload : List Byte) (s : State) : Host.Outcome State Fault Refusal :=
  whenActing (fun s => s.safetyMaskRequest p tag payload State.forceReleaseAxis) s

/-! ### INHIBIT and UNINHIBIT -/

/-- INHIBIT of one axis: of an axis whose inhibit is CLEAR, the inhibit, the permit and the run (R74, R75). -/
def State.inhibitAxis (s : State) (a : Axis) : State :=
  if (s.auth a).inhibited then s
  else (s.setAuth a { (s.auth a).withoutPermit with inhibited := true }).abortRun a .inhibited

/-- INHIBIT (R74). -/
def execInhibit (p : Port) (tag : Byte) (payload : List Byte) (s : State) : Host.Outcome State Fault Refusal :=
  whenActing (fun s => s.safetyMaskRequest p tag payload State.inhibitAxis) s

/-- UNINHIBIT of one axis (R76). -/
def State.uninhibitAxis (s : State) (a : Axis) : State := s.setAuth a { s.auth a with inhibited := false }

/-- UNINHIBIT (R76). -/
def execUninhibit (p : Port) (tag : Byte) (payload : List Byte) (s : State) : Host.Outcome State Fault Refusal :=
  whenActing (fun s => s.safetyMaskRequest p tag payload State.uninhibitAxis) s

/-! ### ACKNOWLEDGE (R17, R78, R79) -/

/-- The answers to a pair (R17). -/
inductive PairAnswer where
  | accepted | stale | wrongState
deriving DecidableEq, Repr

/-- ACCEPTED 0, STALE 1, WRONG_STATE 2 (R195). -/
def PairAnswer.code : PairAnswer → Nat
  | .accepted => 0
  | .stale => 1
  | .wrongState => 2

/-- The answer of a record to a pair that names an epoch (R17). -/
def AxisRecord.pairAnswer (r : AxisRecord) (epoch : BitVec 16) : PairAnswer :=
  if r.epoch ≠ epoch then .stale else if r.state = .provisional then .accepted else .wrongState

/-- A pair taken by the record of its axis (R17). -/
def State.takePair (s : State) (a : Axis) (epoch : BitVec 16) : State :=
  match (s.record a).pairAnswer epoch with
  | .accepted => s.commitRecord a { s.record a with state := .referenced }
  | .stale | .wrongState => s

/-- The answer to a pair in the response: axis, answer, and the state and epoch that the pair left (R79). -/
def pairBytes (a : Axis) (ans : PairAnswer) (r : AxisRecord) : List Byte :=
  [byte (axisNumber a), byte ans.code, byte r.state.code] ++ be 2 r.epoch.toNat

/-- The pairs of a list in order, with the bytes of their answers (R78, R79). -/
def takePairs : List (Axis × BitVec 16) → State → State × List Byte
  | [], s => (s, [])
  | (a, e) :: rest, s =>
    let s1 := s.takePair a e
    let out := takePairs rest s1
    (out.1, pairBytes a ((s.record a).pairAnswer e) (s1.record a) ++ out.2)

/-- The effect and the response of an accepted ACKNOWLEDGE (R78, R79). -/
def State.acknowledgePairs (s : State) (p : Port) (tag : Byte) (pairs : List (Axis × BitVec 16)) : State :=
  (takePairs pairs s).1.answer p tag .done (byte pairs.length :: (takePairs pairs s).2)

/-- ACKNOWLEDGE (R78). -/
def execAcknowledge (p : Port) (tag : Byte) (payload : List Byte) (s : State) : Host.Outcome State Fault Refusal :=
  whenActing (fun s =>
    if p ≠ .safety then s.answer p tag .notPermitted []
    else
      match formAcknowledge payload with
      | none => s.answer p tag .range []
      | some pairs => s.event fun t => t.acknowledgePairs p tag pairs) s

/-! ### Permits (R81, R82) -/

/-- The permit record waits for the answer to the run named (R81, R82). -/
def AuthEntry.waitsFor (x : AuthEntry) (id : Nat) : Bool := decide (x.permit = .wanted) && decide (x.permitRun = some id)

/-- A grant taken: HELD, the timer stopped, and the run goes on with its steps (R81, R106). -/
def State.grant (s : State) (a : Axis) : State :=
  (s.setAuth a { s.auth a with permit := .held, permitTimer := none }).continueRun a

/-- GRANT_PERMIT (R81). -/
def execGrantPermit (p : Port) (tag : Byte) (payload : List Byte) (s : State) : Host.Outcome State Fault Refusal :=
  whenActing (fun s =>
    if p ≠ .safety then s.answer p tag .notPermitted []
    else
      match formPermit payload with
      | none => s.answer p tag .range []
      | some (a, id) =>
        if (s.auth a).inhibited then s.answer p tag .inhibited []
        else if ¬ idOk id then s.answer p tag .range []
        else if (s.auth a).waitsFor id then s.event fun t => (t.grant a).answer p tag .done []
        else s.answer p tag .stale []) s

/-- A refusal taken: the permit record returns to NONE and the run ends (R82). -/
def State.refusePermit (s : State) (a : Axis) : State :=
  (s.setAuth a (s.auth a).withoutPermit).endRun a .permitRefused

/-- REFUSE_PERMIT (R82). -/
def execRefusePermit (p : Port) (tag : Byte) (payload : List Byte) (s : State) : Host.Outcome State Fault Refusal :=
  whenActing (fun s =>
    if p ≠ .safety then s.answer p tag .notPermitted []
    else
      match formPermit payload with
      | none => s.answer p tag .range []
      | some (a, id) =>
        if ¬ idOk id then s.answer p tag .range []
        else if (s.auth a).waitsFor id then s.event fun t => (t.refusePermit a).answer p tag .done []
        else s.answer p tag .stale []) s

end Sys2Proof.Machine
end

