-- ==== Sys2Proof/Machine/ReferenceRequests.lean ====
section
/-! DEFINITION. The meanings of the requests that act on an axis's reference: HOME, ABORT_HOME, INVALIDATE, ACCEPT_REFERENCE,
CLEAR_FLAGS (R15, R19, R20, R23, R103, R104, R113). -/
namespace Sys2Proof.Machine

/-- A port is the effective authority of an axis (R68). -/
def State.holds (s : State) (p : Port) (a : Axis) : Bool := decide (claimantOf p = some (s.authorityOf a))

/-! ### HOME (R103, R104) -/

/-- The recipe that the active calibration names for an axis (R103). -/
def State.homingRecipe (s : State) (a : Axis) : List Step := s.recipes.active.getD (s.calOf a).recipeIndex []

/-- Checks 3 to 7 of R103 in order: the result code of the first that fails. In the phase RESTORING, HOME of a decided axis is NOT_READY as
R103 and R171 say, although R14 says that such an axis may be re-homed while later axes are RESTORING: the model's reading, log 41. An axis
still RESTORING in RUNNING, which R103 says no axis is, is refused as R15 and check 5 of R180 say (log 32). -/
def State.homeRefusal (s : State) (p : Port) (a : Axis) : Option ResultCode :=
  if s.cont.phase ≠ .running ∨ s.cal.validity = .invalid ∨ s.homingRecipe a = [] ∨ (s.record a).state = .restoring
  then some .notReady
  else if ¬ s.holds p a then some .denied
  else if (s.auth a).inhibited then some .inhibited
  else if (s.record a).state = .homing then some .wrongState
  else if s.holdsDetachedOf a then some .busy
  else none

/-- The run record that an accepted HOME creates (R104, item 1). -/
def newRun (id : Nat) (owner : Claimant) (recipe : Nat) : Run :=
  { runId := id, owner := owner, recipeIndex := recipe, position := 0, l0 := false, l1 := false, latch := none
    marked := false, phase := .waitPermit, orderId := none, stepStart := none, pendingResult := none }

/-- The record of an axis taken into HOMING (R15). -/
def AxisRecord.enterHoming (r : AxisRecord) (id : Nat) : AxisRecord :=
  { r with state := .homing, origin := .none, runId := some id, disagreements := 0
           epoch := if r.state.framed then r.epoch + 1 else r.epoch }

/-- The run is created and its axis taken into HOMING (R15, R104, items 1 and 2). -/
def State.createRun (s : State) (a : Axis) (owner : Claimant) : State :=
  let id := s.runIdCounter
  let s1 := ({ s with runIdCounter := nextId id }).setRun a (some (newRun id owner (s.calOf a).recipeIndex))
  s1.commitRecord a ((s1.record a).enterHoming id)

/-- The permit request of a run (R80). -/
def State.requestPermit (s : State) (a : Axis) (id : Nat) : State :=
  (s.setAuth a { s.auth a with
    permit := .wanted, permitRun := some id, permitTimer := some (sec s.cal.active.device.permitTimeout) }).emit
      (.permitWanted a id)

/-- An accepted HOME: the run, the axis, the response, and the run's first move (R104). -/
def State.startHoming (s : State) (p : Port) (tag : Byte) (a : Axis) (owner : Claimant) : State :=
  let id := s.runIdCounter
  let asks := asksPermit (s.homingRecipe a)
  let s1 := (s.createRun a owner).answer p tag .accepted [byte id, flagByte asks]
  if asks then s1.requestPermit a id else s1.continueRun a

/-- HOME (R103, R104). -/
def execHome (p : Port) (tag : Byte) (payload : List Byte) (s : State) : Host.Outcome State Fault Refusal :=
  whenActing (fun s =>
    match claimantOf p with
    | none => s.answer p tag .notPermitted []
    | some c =>
      match formAxis payload with
      | none => s.answer p tag .range []
      | some a =>
        match s.homeRefusal p a with
        | some code => s.answer p tag code []
        | none => s.event fun t => t.startHoming p tag a c) s

/-! ### ABORT_HOME (R113) -/

/-- Checks 3 and 4 of R113: the sender is the run's owner or the effective authority, and a run exists. -/
def State.abortRefusal (s : State) (c : Claimant) (a : Axis) : Option ResultCode :=
  let owns := match s.run a with
    | some r => decide (r.owner = c)
    | none => false
  if ¬ (owns || decide (s.authorityOf a = c)) then some .denied
  else if (s.run a).isNone then some .wrongState
  else none

/-- ABORT_HOME (R113). -/
def execAbortHome (p : Port) (tag : Byte) (payload : List Byte) (s : State) : Host.Outcome State Fault Refusal :=
  whenActing (fun s =>
    match claimantOf p with
    | none => s.answer p tag .notPermitted []
    | some c =>
      match formAxis payload with
      | none => s.answer p tag .range []
      | some a =>
        match s.abortRefusal c a with
        | some code => s.answer p tag code []
        | none => s.event fun t => (t.abortRun a .aborted).answer p tag .done []) s

/-! ### INVALIDATE and ACCEPT_REFERENCE (R19, R20) -/

/-- The checks of INVALIDATE after its form, in the order of R180 (R20). -/
def State.invalidateRefusal (s : State) (p : Port) (a : Axis) : Option ResultCode :=
  if (s.record a).state = .restoring then some .notReady
  else if p ≠ .safety ∧ ¬ s.holds p a then some .denied
  else if ¬ (s.record a).state.framed then some .wrongState
  else none

/-- INVALIDATE (R20). -/
def execInvalidate (p : Port) (tag : Byte) (payload : List Byte) (s : State) : Host.Outcome State Fault Refusal :=
  whenActing (fun s =>
    match formAxis payload with
    | none => s.answer p tag .range []
    | some a =>
      match s.invalidateRefusal p a with
      | some code => s.answer p tag code []
      | none =>
        s.event fun t => (t.commitRecord a ((t.record a).loseFrame .invalidated)).answer p tag .done []) s

/-- The checks of ACCEPT_REFERENCE after its form, in the order of R180 (R19). -/
def State.acceptRefusal (s : State) (p : Port) (a : Axis) : Option ResultCode :=
  if (s.record a).state = .restoring then some .notReady
  else if ¬ s.holds p a then some .denied
  else if (s.record a).state ≠ .suspect then some .wrongState
  else none

/-- A SUSPECT frame trusted again (R19). -/
def AxisRecord.trusted (r : AxisRecord) : AxisRecord :=
  { r with state := .provisional, epoch := r.epoch + 1, disagreements := 0 }

/-- ACCEPT_REFERENCE (R19). -/
def execAcceptReference (p : Port) (tag : Byte) (payload : List Byte) (s : State) : Host.Outcome State Fault Refusal :=
  whenActing (fun s =>
    if p = .safety then s.answer p tag .notPermitted []
    else
      match formAxis payload with
      | none => s.answer p tag .range []
      | some a =>
        match s.acceptRefusal p a with
        | some code => s.answer p tag code []
        | none => s.event fun t => (t.commitRecord a (t.record a).trusted).answer p tag .done []) s

/-! ### CLEAR_FLAGS (R23) -/

/-- The flags of one set without those of another. -/
def StickyFlags.without (x y : StickyFlags) : StickyFlags :=
  ⟨x.arithOverflow && !y.arithOverflow, x.frameError && !y.frameError, x.coarseWarn && !y.coarseWarn,
   x.contactSeen && !y.contactSeen⟩

/-- Clears the named flags in the record of every named axis; no event is raised (R23, R26). -/
def State.clearSticky (s : State) (m : AxisSet) (f : StickyFlags) : State :=
  { s with records := PerAxis.of fun a =>
      if m.get a then { s.record a with sticky := (s.record a).sticky.without f } else s.record a }

/-- CLEAR_FLAGS (R23). -/
def execClearFlags (p : Port) (tag : Byte) (payload : List Byte) (s : State) : Host.Outcome State Fault Refusal :=
  whenActing (fun s =>
    match formFlags payload with
    | none => s.answer p tag .range []
    | some (m, f) => (s.clearSticky m f).answer p tag .done []) s

end Sys2Proof.Machine
end

