-- ==== Sys2Proof/Machine/CalibrationRequests.lean ====
section
/-! DEFINITION. The meanings of the requests of the Calibration Store: SET_CAL, DISCARD_CAL, COMMIT_CAL and the captures
(R22, R36, R52, R54 to R58, R61, R64, R65). -/
namespace Sys2Proof.Machine

/-! ### SET_CAL (R52) -/

/-- Checks 3 and 4 of R52: the sender's authority over the part, and its editor. -/
def State.editRefusal (s : State) (c : Claimant) (part : CalPart) : Option ResultCode :=
  let denied : Bool := match part with
    | .device => decide (c = .motion)
    | .axis a => decide (s.authorityOf a ≠ c)
  if denied then some .denied
  else match s.cal.editorOf part with
    | some e => if e = c then none else some .busy
    | none => none

/-- The store with the sender as the editor of a part; the Motion Port is never the device's (R50, R52). -/
def CalStore.withEditor (k : CalStore) (c : Claimant) : CalPart → CalStore
  | .device => { k with deviceEditor := some c }
  | .axis a => { k with axisEditor := k.axisEditor.set a (some c) }

/-- The store with a field of the staging set written, where the field exists and the value lies in its range (R52). -/
def CalStore.writeField (k : CalStore) (part : CalPart) (row : Nat) (v : Int) : Option CalStore :=
  match part with
  | .device =>
    (deviceFieldOfRow row).bind fun f =>
      if f.inRange v then some { k with staging := { k.staging with device := k.staging.device.withField f v } } else none
  | .axis a =>
    (axisFieldOfRow row).bind fun f =>
      if f.inRange v then
        some { k with staging := { k.staging with
          axes := k.staging.axes.set a ((k.staging.axes.get a).withField f v) } }
      else none

/-- SET_CAL (R52). -/
def execSetCal (p : Port) (tag : Byte) (payload : List Byte) (s : State) : Host.Outcome State Fault Refusal :=
  whenActing (fun s =>
    match claimantOf p with
    | none => s.answer p tag .notPermitted []
    | some c =>
      match formSetCal payload with
      | none => s.answer p tag .range []
      | some (part, row, v) =>
        if s.cont.phase = .startup then s.answer p tag .notReady []
        else
          match s.editRefusal c part with
          | some code => s.answer p tag code []
          | none =>
            match s.cal.writeField part row v with
            | none => s.answer p tag .range []
            | some k => (s.setCal (k.withEditor c part)).answer p tag .done []) s

/-! ### DISCARD_CAL (R54) -/

/-- The device-wide edit is discarded (R54). -/
def CalStore.discardDevice (k : CalStore) : CalStore :=
  { k with staging := { k.staging with device := k.active.device }, deviceEditor := none }

/-- A part named has an editor other than the sender (R54). -/
def CalStore.editedByOther (k : CalStore) (c : Claimant) (m : AxisSet) (device : Bool) : Bool :=
  (allAxes.any fun a => m.get a && (match k.axisEditor.get a with
    | some e => decide (e ≠ c)
    | none => false))
  || (device && (match k.deviceEditor with
    | some e => decide (e ≠ c)
    | none => false))

/-- The parts named whose editor is the sender take the active values (R54). -/
def CalStore.discard (k : CalStore) (c : Claimant) (m : AxisSet) (device : Bool) : CalStore :=
  let k1 := m.members.foldl (fun k a => if k.axisEditor.get a = some c then k.discardAxis a else k) k
  if device ∧ k1.deviceEditor = some c then k1.discardDevice else k1

/-- DISCARD_CAL (R54). -/
def execDiscardCal (p : Port) (tag : Byte) (payload : List Byte) (s : State) : Host.Outcome State Fault Refusal :=
  whenActing (fun s =>
    match claimantOf p with
    | none => s.answer p tag .notPermitted []
    | some c =>
      match formDiscardCal payload with
      | none => s.answer p tag .range []
      | some (m, device) =>
        if device ∧ c = .motion then s.answer p tag .denied []
        else if s.cal.editedByOther c m device then s.answer p tag .busy []
        else (s.setCal (s.cal.discard c m device)).answer p tag .done []) s

/-! ### COMMIT_CAL (R55 to R57) -/

/-- The axes that a port edits (R55). -/
def CalStore.editsOf (k : CalStore) (c : Claimant) : AxisSet :=
  PerAxis.of fun a => decide (k.axisEditor.get a = some c)

/-- A port edits the device-wide fields (R55). -/
def CalStore.editsDevice (k : CalStore) (c : Claimant) : Bool := decide (c = .cell) && decide (k.deviceEditor = some .cell)

/-- The resulting set of a commit (R56). -/
def CalStore.resulting (k : CalStore) (c : Claimant) : CalSet :=
  { axes := PerAxis.of fun a => if (k.editsOf c).get a then k.staging.axes.get a else k.active.axes.get a
    device := if k.editsDevice c then k.staging.device else k.active.device }

/-- An edit would change a frame-defining field of an axis in HOMING or RESTORING (R55, check 4). -/
def State.commitBlocked (s : State) (c : Claimant) : Bool :=
  allAxes.any fun a =>
    ((s.cal.editsOf c).get a && (s.cal.active.axes.get a).definesFrame (s.cal.staging.axes.get a))
      && (decide ((s.record a).state = .homing) || decide ((s.record a).state = .restoring))

/-- The sender is no longer the effective authority of an axis that it edits (R55, check 3). -/
def State.commitDenied (s : State) (c : Claimant) : Bool :=
  allAxes.any fun a => (s.cal.editsOf c).get a && decide (s.authorityOf a ≠ c)

/-- The number of steps of a recipe of the active store (R56). -/
def State.recipeLength (s : State) (i : Nat) : Nat := (s.recipes.active.getD i []).length

/-- Item 1 of R57: the staging fields copied, the editors of the commit NONE, its capture points absent. -/
def CalStore.takeEdits (k : CalStore) (c : Claimant) : CalStore :=
  { k with
    active := k.resulting c
    axisEditor := PerAxis.of fun a => if (k.editsOf c).get a then none else k.axisEditor.get a
    deviceEditor := if k.editsDevice c then none else k.deviceEditor
    points := PerAxis.of fun a => if (k.editsOf c).get a then ⟨none, none⟩ else k.points.get a }

/-- The record of an axis after the frame effect of a commit (R22). -/
def AxisRecord.afterFrameChange (r : AxisRecord) (old new : AxisCal) : AxisRecord :=
  if r.state.framed then
    (if old.removesFrame new then r.loseFrame .calibrationChanged
     else if old.replacesFrame new then { r with state := .provisional, epoch := r.epoch + 1 } else r)
  else r

/-- The record of an axis after a commit: its frame (R22), the turn after a change of profile (R22), and the coarse
disagreement count after a change of the coarse fields (R11). -/
def AxisRecord.afterCommit (r : AxisRecord) (old new : AxisCal) : AxisRecord :=
  let r1 := r.afterFrameChange old new
  let r2 := if old.profile = new.profile then r1 else { r1 with turn := 0 }
  match r2.state with
  | .provisional | .referenced => if old.changesCoarse new then { r2 with disagreements := 0 } else r2
  | .suspect | .unreferenced | .restoring | .homing => r2

/-- The Sensor Interface after a commit that changed the axis's profile (R28, R36). -/
def State.restartProfile (s : State) (a : Axis) : State :=
  (s.setSensor a { s.sensor a with
    readStatus := .starting, failedReads := 0, indexWatch := .off, restAnchor := none, restStart := none
    profileChangedAt := some s.now }).setAtRest a false

/-- A change of the fields removes or replaces the frame of a record (R22). -/
def AxisRecord.frameCommitted (r : AxisRecord) (old new : AxisCal) : Bool := r.state.framed && old.definesFrame new

/-- Item 2 of R57 for one axis: the record, the Sensor Interface, and the evaluation of the position (R5, R22, R36). Where the commit removes or
replaces the frame of the axis, the axes that it is the coupling source of are evaluated too, be its state changed or not (R58). -/
def State.applyCommit (old new : CalSet) (s : State) (a : Axis) : State :=
  let o := old.axes.get a
  let n := new.axes.get a
  if o = n then s
  else
    let s1 := s.commitRecord a ((s.record a).afterCommit o n)
    let s2 := if o.profile = n.profile then s1 else s1.restartProfile a
    if (s.record a).frameCommitted o n then s2.reevaluate a false else s2.evaluate false a

/-- Item 3 of R57: VALID, and the fingerprint of the new active set; a change of the fingerprint calls for the park test (R147). -/
def State.renewFingerprint (s : State) : State :=
  let fp := s.cal.active.fingerprint
  let s1 := s.setCal { s.cal with validity := .valid, fingerprint := fp }
  if s.cal.fingerprint = fp then s1 else s1.wantParkTest

/-- Item 5 of R57: the outdating event of an axis whose frame-defining fields changed. -/
def State.outdateChanged (old new : CalSet) (s : State) (a : Axis) : State :=
  if (old.axes.get a).definesFrame (new.axes.get a) then s.outdate a else s

/-- The effects of a commit, in the order of R57. -/
def State.commitCalibration (s : State) (c : Claimant) : State :=
  let old := s.cal.active
  let new := s.cal.resulting c
  let axes := s.cal.editsOf c
  let device := s.cal.editsDevice c
  let s1 := s.setCal (s.cal.takeEdits c)
  let s2 := allAxes.foldl (State.applyCommit old new) s1
  let s3 := s2.renewFingerprint.queueCalWrite
  let s4 := allAxes.foldl (State.outdateChanged old new) s3
  s4.emit (.calCommitted axes device)

/-- The payload of DONE: the fingerprint and the axes committed (R57, R195). -/
def State.commitPayload (s : State) (axes : AxisSet) : List Byte := be 4 s.cal.fingerprint.toNat ++ [byte axes.toMask]

/-- COMMIT_CAL of a port that edits something: checks 3 to 5 of R55, and the commit. -/
def State.commitEdits (s : State) (p : Port) (tag : Byte) (c : Claimant) : State :=
  if s.commitDenied c then s.answer p tag .denied []
  else if s.commitBlocked c then s.answer p tag .wrongState []
  else
    match (s.cal.resulting c).validate s.recipeLength with
    | some (part, check) => s.answer p tag .range [byte part, byte check]
    | none =>
      s.event fun t =>
        let u := t.commitCalibration c
        u.answer p tag .done (u.commitPayload (t.cal.editsOf c))

/-- COMMIT_CAL (R55). -/
def execCommitCal (p : Port) (tag : Byte) (payload : List Byte) (s : State) : Host.Outcome State Fault Refusal :=
  whenActing (fun s =>
    match claimantOf p with
    | none => s.answer p tag .notPermitted []
    | some c =>
      match formNone payload with
      | none => s.answer p tag .range []
      | some _ =>
        if s.cont.phase = .startup ∨ s.cont.pfw then s.answer p tag .notReady []
        else if (s.cal.editsOf c).nonempty || s.cal.editsDevice c then s.commitEdits p tag c
        else s.answer p tag .done (s.commitPayload (PerAxis.const false))) s

/-! ### CAPTURE_ZERO (R64) -/

/-- The checks of CAPTURE_ZERO from the readiness of the axis to its state, and the reported position where they pass (R64). -/
def State.capturable (s : State) (c : Claimant) (a : Axis) (ready : Bool) (stateOk : AxisState → Bool) :
    Except ResultCode Int :=
  if (s.record a).state = .restoring ∨ ¬ ready then .error .notReady
  else
    match s.editRefusal c (.axis a) with
    | some code => .error code
    | none =>
      if stateOk (s.record a).state then
        match (s.record a).position with
        | some v => .ok v
        | none => .error .wrongState
      else .error .wrongState

/-- Writes the staging fields of an axis and makes the sender its editor (R64, R65). -/
def CalStore.editAxis (k : CalStore) (c : Claimant) (a : Axis) (f : AxisCal → AxisCal) : CalStore :=
  ({ k with staging := { k.staging with axes := k.staging.axes.set a (f (k.staging.axes.get a)) } }).withEditor c (.axis a)

/-- CAPTURE_ZERO of an axis that passes the checks of its state: the new home value H + J − P (R64). -/
def State.captureHome (s : State) (p : Port) (tag : Byte) (c : Claimant) (a : Axis) (j pos : Int) : State :=
  let home := (s.calOf a).homePosition + j - pos
  if inSignedRange j && inSignedRange home then
    (s.setCal (s.cal.editAxis c a fun k => { k with homePosition := home })).answer p tag .done (beInt 4 home)
  else s.answer p tag .range []

/-- CAPTURE_ZERO (R64). -/
def execCaptureZero (p : Port) (tag : Byte) (payload : List Byte) (s : State) : Host.Outcome State Fault Refusal :=
  whenActing (fun s =>
    match claimantOf p with
    | none => s.answer p tag .notPermitted []
    | some c =>
      match formCaptureZero payload with
      | none => s.answer p tag .range []
      | some (a, j) =>
        match s.capturable c a true AxisState.framed with
        | .error code => s.answer p tag code []
        | .ok pos => s.captureHome p tag c a j pos) s

/-! ### CAPTURE_COARSE (R65) -/

/-- The points of an axis with one recorded. -/
def CapturePoints.record (x : CapturePoints) (first : Bool) (pt : CapturePoint) : CapturePoints :=
  if first then { x with point1 := some pt } else { x with point2 := some pt }

/-- The gain that two points give; none where their codes are equal or the gain leaves its range (R65). -/
def coarseGainOf (p1 p2 : CapturePoint) : Option Int :=
  if p1.code = p2.code then none
  else
    let g := roundQuot ((p2.joint - p1.joint) * 2 ^ 16) ((p2.code : Int) - (p1.code : Int))
    if inSignedRange g then some g else none

/-- The store with a point recorded and the sender as the editor (R65). -/
def CalStore.recordPoint (k : CalStore) (c : Claimant) (a : Axis) (pts : CapturePoints) : CalStore :=
  { k.withEditor c (.axis a) with points := k.points.set a pts }

/-- The coarse fields that two points give (R65). -/
def AxisCal.withCoarse (k : AxisCal) (p1 : CapturePoint) (g : Int) : AxisCal :=
  { k with coarseRef := p1.code, coarseHome := p1.joint, coarseGain := g }

/-- CAPTURE_COARSE of an axis that passes the checks of its state (R65). -/
def State.capturePoint (s : State) (p : Port) (tag : Byte) (c : Claimant) (a : Axis) (first : Bool) (pt : CapturePoint) : State :=
  let pts := (s.cal.points.get a).record first pt
  match pts.point1, pts.point2 with
  | some p1, some p2 =>
    match coarseGainOf p1 p2 with
    | none => s.answer p tag .range []
    | some g =>
      (s.setCal ((s.cal.recordPoint c a pts).editAxis c a fun k => k.withCoarse p1 g)).answer p tag .done
        (be 2 p1.code ++ beInt 4 p1.joint ++ beInt 4 g)
  | _, _ => (s.setCal (s.cal.recordPoint c a pts)).answer p tag .done []

/-- CAPTURE_COARSE (R65): only of a REFERENCED axis with a coarse average. -/
def execCaptureCoarse (p : Port) (tag : Byte) (payload : List Byte) (s : State) : Host.Outcome State Fault Refusal :=
  whenActing (fun s =>
    match claimantOf p with
    | none => s.answer p tag .notPermitted []
    | some c =>
      match formCaptureCoarse payload with
      | none => s.answer p tag .range []
      | some (a, first) =>
        match s.capturable c a (s.sensor a).coarseAverage.isSome (fun x => decide (x = .referenced)) with
        | .error code => s.answer p tag code []
        | .ok pos =>
          s.capturePoint p tag c a first { code := (s.sensor a).coarseAverage.getD 0, joint := pos }) s

end Sys2Proof.Machine
end

