-- ==== Sys2Proof/Machine/ChannelRequests.lean ====
section
/-! DEFINITION. The meanings of the Motion Port's answers to the Move Channel: MOVE_ACCEPT, MOVE_END, CHANNEL_RESET (R122, R124, R126). -/
namespace Sys2Proof.Machine

/-- The order in the slot has the id named. -/
def MoveChannel.names (c : MoveChannel) (id : Nat) : Bool :=
  match c.order with
  | some o => decide (o.orderId = id)
  | none => false

/-! ### MOVE_ACCEPT (R122) -/

/-- The run of an axis enters MOVING (R108, R122). -/
def State.runMoves (s : State) (a : Axis) : State :=
  match s.run a with
  | some r => s.setRun a (some { r with phase := .moving })
  | none => s

/-- The order in the slot becomes ACTIVE (R122). -/
def State.acceptOrder (s : State) : State :=
  match s.channel.order with
  | none => s
  | some o =>
    ((s.setChannel { s.channel with slot := .active, acceptTimer := none }).runMoves o.axis).orderAccepted o

/-- MOVE_ACCEPT (R122). -/
def execMoveAccept (p : Port) (tag : Byte) (payload : List Byte) (s : State) : Host.Outcome State Fault Refusal :=
  whenActing (fun s =>
    if p ≠ .motion then s.answer p tag .notPermitted []
    else
      match formOrder payload with
      | none => s.answer p tag .range []
      | some id =>
        if ¬ idOk id then s.answer p tag .range []
        else if s.channel.slot = .posted ∧ s.channel.names id then s.event fun t => t.acceptOrder.answer p tag .done []
        else s.answer p tag .stale []) s

/-! ### MOVE_END (R124) -/

/-- The slot takes a MOVE_END with the matching id: in ACTIVE and STOPPING any outcome, in POSTED only REFUSED (R124). -/
def ChannelState.takesEnd (c : ChannelState) (o : MoveOutcome) : Bool :=
  match c with
  | .active | .stopping => true
  | .posted => decide (o = .refused)
  | .empty | .blocked => false

/-- The order in the slot ends: the slot empties, the run's step is completed or ended, and the next queued run is
posted (R110, R119, R124); a detached order has no run (R127). -/
def State.endOrder (s : State) (out : MoveOutcome) : State :=
  match s.channel.order with
  | none => s
  | some o =>
    let detached := s.channel.detached
    let s1 := (s.setChannel s.channel.emptied).orderEnded o.axis
    let s2 := if detached then s1 else s1.moveEnded o.axis out
    s2.postIfFree

/-- MOVE_END (R124). -/
def execMoveEnd (p : Port) (tag : Byte) (payload : List Byte) (s : State) : Host.Outcome State Fault Refusal :=
  whenActing (fun s =>
    if p ≠ .motion then s.answer p tag .notPermitted []
    else
      match formMoveEnd payload with
      | none => s.answer p tag .range []
      | some (id, out) =>
        if ¬ idOk id then s.answer p tag .range []
        else if s.channel.slot.takesEnd out ∧ s.channel.names id
        then s.event fun t => (t.endOrder out).answer p tag .done []
        else s.answer p tag .stale []) s

/-! ### CHANNEL_RESET (R126) -/

/-- The blocked order is discarded, and the head of the queue is posted (R126). -/
def State.freeSlot (s : State) : State := (s.setChannel s.channel.emptied).postIfFree

/-- CHANNEL_RESET (R126). -/
def execChannelReset (p : Port) (tag : Byte) (payload : List Byte) (s : State) : Host.Outcome State Fault Refusal :=
  whenActing (fun s =>
    if p ≠ .motion then s.answer p tag .notPermitted []
    else
      match formNone payload with
      | none => s.answer p tag .range []
      | some _ =>
        if s.channel.slot = .blocked then s.event fun t => t.freeSlot.answer p tag .done []
        else s.answer p tag .wrongState []) s

end Sys2Proof.Machine
end

