-- ==== Sys2Proof/Machine/ContinuityRequests.lean ====
section
/-! DEFINITION. The meanings of CHECKPOINT and DISCARD_SNAPSHOTS (R146, R154). -/
namespace Sys2Proof.Machine

/-- The payload of CHECKPOINT: the target slot and the sequence of the capture (R146, R195). -/
def Continuity.checkpointPayload (c : Continuity) : List Byte :=
  byte (slotCode (some c.captureTarget.1)) :: be 4 c.captureTarget.2.toNat

/-- CHECKPOINT (R146). -/
def execCheckpoint (p : Port) (tag : Byte) (payload : List Byte) (s : State) : Host.Outcome State Fault Refusal :=
  whenActing (fun s =>
    if p = .safety then s.answer p tag .notPermitted []
    else
      match formNone payload with
      | none => s.answer p tag .range []
      | some _ =>
        if s.cont.phase = .startup ∨ s.cont.phase = .restoring then s.answer p tag .notReady []
        else if s.cont.capture.isSome ∨ s.cont.pfw then s.answer p tag .busy []
        else
          s.event fun t =>
            (t.answer p tag .accepted t.cont.checkpointPayload).startCapture .checkpoint) s

/-- A byte of a mark on the link belongs to a mark that has been dropped. -/
def isMark : LinkOwner → Bool
  | .mark _ _ => true
  | .slotHeader | .capture | .calibration | .recipe | .orphan => false

/-- The directory after a discard: both slots EMPTY, no newest slot, their header writes queued, their queued marks dropped (R154).
A mark dropped unwritten stays shown set (the model's choice, log 38). -/
def Continuity.discarded (c : Continuity) : Continuity :=
  { c with
    slotA := { c.slotA with state := .empty }
    slotB := { c.slotB with state := .empty }
    newest := none
    waitingSlotWrites := c.waitingSlotWrites ++ [.a, .b]
    waitingMarks := [] }

/-- The effects of DISCARD_SNAPSHOTS (R154). -/
def State.discardSlots (s : State) : State :=
  ((s.setCont s.cont.discarded).setLink (orphanIf isMark s.link)).setAllMoving (PerAxis.const true)

/-- DISCARD_SNAPSHOTS (R154). -/
def execDiscardSnapshots (p : Port) (tag : Byte) (payload : List Byte) (s : State) : Host.Outcome State Fault Refusal :=
  whenActing (fun s =>
    if p ≠ .cell then s.answer p tag .notPermitted []
    else
      match formNone payload with
      | none => s.answer p tag .range []
      | some _ =>
        if s.cont.phase ≠ .running then s.answer p tag .notReady []
        else if s.cont.capture.isSome then s.answer p tag .busy []
        else s.event fun t => t.discardSlots.answer p tag .done []) s

end Sys2Proof.Machine
end

