-- ==== Sys2Proof/Machine/PowerCommands.lean ====
section
/-! DEFINITION. The meanings of the supply, reset, start-up, power-fail and retention-link commands. -/
namespace Sys2Proof.Machine

/-- POWER_ON_RESET (R13, R156): supply returns and every block takes its reset values. A byte that is still in progress,
because no loss of supply came before, is completed as at an external reset (R144, log 5). -/
def execPowerOnReset (s : State) : Host.Outcome State Fault Refusal :=
  .next { s.completeByte.resetBlocks with supply := true }

/-- The byte in progress at a loss of supply: completed, or torn with a free value (R144, log 6). -/
def State.loseByte (s : State) (completes : Bool) : State :=
  match s.link with
  | none => s
  | some x =>
    if completes then s.completeByte
    else { s.writeRetention x.addr (Config.tornByte s.freeCount) with freeCount := s.freeCount + 1 }

/-- POWER_LOSS (R144): the byte in progress completes if supply lasts, and every other write in hand is lost. -/
def execPowerLoss (completes : Bool) (s : State) : Host.Outcome State Fault Refusal :=
  .next (if s.supply then { (s.loseByte completes).resetBlocks with supply := false } else s)

/-- EXTERNAL_RESET (R144, R156), taken when it takes effect: the byte in progress is complete, every write in hand is
discarded, and every block is held at its reset values (log 5). -/
def execExternalReset (s : State) : Host.Outcome State Fault Refusal :=
  .next (if s.acting then { s.completeByte.resetBlocks with resetInput := true } else { s with resetInput := true })

/-- EXTERNAL_RESET_RELEASE (R156): STARTUP begins, from the reset values at which the part was held. -/
def execExternalResetRelease (s : State) : Host.Outcome State Fault Refusal :=
  .next { s with resetInput := false }

/-- CALIBRATION_START_UP_LOAD (R66): in STARTUP, once. -/
def execCalibrationStartUpLoad (s : State) : Host.Outcome State Fault Refusal :=
  whenActing (fun s =>
    if s.cont.phase = .startup ∧ s.cal.loaded = false then s.event State.loadCalibration else s) s

/-- RECIPE_START_UP_LOAD (R100): in STARTUP, once. -/
def execRecipeStartUpLoad (s : State) : Host.Outcome State Fault Refusal :=
  whenActing (fun s =>
    if s.cont.phase = .startup ∧ s.recipes.loaded = false then s.event State.loadRecipes else s) s

/-- STARTUP_COMPLETE (R157): the end of STARTUP, after both loads. -/
def execStartupComplete (s : State) : Host.Outcome State Fault Refusal :=
  whenActing (fun s =>
    if s.cont.phase = .startup ∧ s.cal.loaded ∧ s.recipes.loaded then s.event State.completeStartup else s) s

/-- PFW_ASSERTED (R145). A part that does not act only sees the level of its input change (R141, log 9). -/
def execPfwAsserted (s : State) : Host.Outcome State Fault Refusal :=
  .next (if s.acting then s.event State.assertPfw else s.setCont { s.cont with pfw := true })

/-- PFW_DEASSERTED (R151). -/
def execPfwDeasserted (s : State) : Host.Outcome State Fault Refusal :=
  .next (if s.acting then s.event State.deassertPfw else s.setCont { s.cont with pfw := false })

/-- The completion of the byte on the link: it is written, and its writer goes on (R143). -/
def State.byteWritten (s : State) : State :=
  match s.link with
  | none => s
  | some x => ((s.writeRetention x.addr x.value).setLink none).byteDone x.owner

/-- RETENTION_BYTE_WRITTEN (R143). -/
def execRetentionByteWritten (s : State) : Host.Outcome State Fault Refusal :=
  whenActing (fun s => if s.link.isSome then s.event State.byteWritten else s) s

end Sys2Proof.Machine
end

