-- ==== Sys2Proof/Machine/ReadRequests.lean ====
section
/-! DEFINITION. The meanings of the requests that read, of SUBSCRIBE, and of the periods that make no request. -/
namespace Sys2Proof.Machine

/-! ### Periods (R176, R177, R180) -/

/-- SHORT_PERIOD (R176): the period is not taken and the held response is kept. -/
def execShortPeriod (_ : Port) (_ : Nat) (s : State) : Host.Outcome State Fault Refusal :=
  whenActing (fun s => s) s

/-- FETCH (R176): the held response becomes absent. -/
def execFetch (p : Port) (s : State) : Host.Outcome State Fault Refusal :=
  whenActing (fun s => s.setPort p { s.port p with held := none }) s

/-- The frame-error count after one more FRAME_ERROR: it stays at 65535 (R174). -/
def countFrameError (n : Nat) : Nat := if n < 65535 then n + 1 else 65535

/-- FRAME_ERROR (R177): answered FRAME_ERROR with the byte received at the tag's place, or 0, and the count increased. -/
def execFrameError (p : Port) (received : List Byte) (s : State) : Host.Outcome State Fault Refusal :=
  whenActing (fun s =>
    (s.setPort p { s.port p with frameErrors := countFrameError (s.port p).frameErrors }).answer p
      (received.getD 2 0) .frameError []) s

/-- UNKNOWN_KIND (R180, R193): refused UNKNOWN. -/
def execUnknownKind (p : Port) (_ : Byte) (tag : Byte) (_ : List Byte) (s : State) : Host.Outcome State Fault Refusal :=
  whenActing (fun s => s.answer p tag .unknown []) s

/-! ### Reads -/

/-- A read that carries no payload: DONE with a payload of the state, or RANGE (R183). -/
def plainRead (p : Port) (tag : Byte) (payload : List Byte) (f : State → List Byte) (s : State) : State :=
  match formNone payload with
  | none => s.answer p tag .range []
  | some _ => s.answer p tag .done (f s)

/-- READ_AXES (R185). -/
def execReadAxes (p : Port) (tag : Byte) (payload : List Byte) (s : State) : Host.Outcome State Fault Refusal :=
  whenActing (plainRead p tag payload State.axesPayload) s

/-- READ_AXIS (R185). -/
def execReadAxis (p : Port) (tag : Byte) (payload : List Byte) (s : State) : Host.Outcome State Fault Refusal :=
  whenActing (fun s =>
    match formAxis payload with
    | none => s.answer p tag .range []
    | some a => s.answer p tag .done (s.record a).bytes) s

/-- READ_RUN (R105). -/
def execReadRun (p : Port) (tag : Byte) (payload : List Byte) (s : State) : Host.Outcome State Fault Refusal :=
  whenActing (fun s =>
    match formAxis payload with
    | none => s.answer p tag .range []
    | some a => s.answer p tag .done (s.runPayload a)) s

/-- READ_RECOVERY (R168). -/
def execReadRecovery (p : Port) (tag : Byte) (payload : List Byte) (s : State) : Host.Outcome State Fault Refusal :=
  whenActing (plainRead p tag payload State.recoveryPayload) s

/-- READ_SLOTS (R155). -/
def execReadSlots (p : Port) (tag : Byte) (payload : List Byte) (s : State) : Host.Outcome State Fault Refusal :=
  whenActing (plainRead p tag payload State.slotsPayload) s

/-- READ_CAL (R51). -/
def execReadCal (p : Port) (tag : Byte) (payload : List Byte) (s : State) : Host.Outcome State Fault Refusal :=
  whenActing (fun s =>
    match formReadCal payload with
    | none => s.answer p tag .range []
    | some (set, part) => s.answer p tag .done (s.cal.payload set part)) s

/-- READ_STEP (R96). -/
def execReadStep (p : Port) (tag : Byte) (payload : List Byte) (s : State) : Host.Outcome State Fault Refusal :=
  whenActing (fun s =>
    match formReadStep payload with
    | none => s.answer p tag .range []
    | some (set, i, pos) =>
      if i ≤ 15 ∧ pos ≤ 11 then s.answer p tag .done (s.recipes.payload set i pos) else s.answer p tag .range []) s

/-- The oldest record leaves the queue; the alert line follows (R190, R191). -/
def PortState.dropOldest (x : PortState) : PortState :=
  { x with queue := x.queue.drop 1, alert := !(x.queue.drop 1).isEmpty }

/-- The payload of READ_REPORT: the oldest record, or nothing (R190). -/
def PortState.oldestBytes (x : PortState) : List Byte :=
  match x.queue with
  | [] => []
  | r :: _ => r.bytes

/-- The oldest record of a port's queue is removed and returned (R190). -/
def State.takeReport (s : State) (p : Port) (tag : Byte) : State :=
  (s.setPort p (s.port p).dropOldest).answer p tag .done (s.port p).oldestBytes

/-- READ_REPORT (R190). -/
def execReadReport (p : Port) (tag : Byte) (payload : List Byte) (s : State) : Host.Outcome State Fault Refusal :=
  whenActing (fun s =>
    match formNone payload with
    | none => s.answer p tag .range []
    | some _ => s.takeReport p tag) s

/-- IDENTIFY (R184). -/
def execIdentify (p : Port) (tag : Byte) (payload : List Byte) (s : State) : Host.Outcome State Fault Refusal :=
  whenActing (plainRead p tag payload fun s => s.identifyPayload p) s

/-- READ_MOVE_ORDER (R121): from the Motion Port only. -/
def execReadMoveOrder (p : Port) (tag : Byte) (payload : List Byte) (s : State) : Host.Outcome State Fault Refusal :=
  whenActing (fun s =>
    if p ≠ .motion then s.answer p tag .notPermitted []
    else plainRead p tag payload (fun s => s.channel.payload) s) s

/-! ### SUBSCRIBE (R186) -/

/-- A queued record brought into line with a new axis mask: axes dropped are removed, axes added take their present
values, axes kept keep theirs (R186). -/
def ReportRecord.realign (r : ReportRecord) (old new : AxisSet) (present : PerAxis (Option AxisView)) : ReportRecord :=
  { r with axisList := PerAxis.of fun a =>
      if new.get a then (if old.get a then r.axisList.get a else present.get a) else none }

/-- The new subscription of a port (R186). -/
def State.subscribePort (s : State) (p : Port) (axes : AxisSet) (causes : CauseSet) : State :=
  let x := s.port p
  s.setPort p { x with
    axisMask := axes, causeMask := causes
    queue := x.queue.map fun r => r.realign x.axisMask axes (s.axisList axes) }

/-- SUBSCRIBE (R186). -/
def execSubscribe (p : Port) (tag : Byte) (payload : List Byte) (s : State) : Host.Outcome State Fault Refusal :=
  whenActing (fun s =>
    match formSubscribe payload with
    | none => s.answer p tag .range []
    | some (axes, causes) =>
      (s.subscribePort p axes causes).answer p tag .done (byte axes.toMask :: be 2 causes.toMask)) s

end Sys2Proof.Machine
end

