-- ==== Sys2Proof/Machine/RecipeRequests.lean ====
section
/-! DEFINITION. The meanings of the requests of the Recipe Store: SET_STEP, CLEAR_RECIPE, COMMIT_RECIPES (R97 to R99). -/
namespace Sys2Proof.Machine

/-- The step record of a SET_STEP whose kind, condition, fields and ranges are those of R86 (R97, check 4). -/
def validStep (record : List Byte) : Option Step :=
  (stepOfBytes record).bind fun st => if st.body.inRange then some st else none

/-- A list with a step written at a position: replaced below the length, appended at the length (R97). -/
def writeStep (steps : List Step) (pos : Nat) (st : Step) : List Step :=
  if pos < steps.length then steps.set pos st else steps ++ [st]

/-- The store with one staging recipe replaced. -/
def RecipeStore.setStaging (r : RecipeStore) (i : Nat) (steps : List Step) : RecipeStore :=
  { r with staging := r.staging.set i steps }

/-- Checks 2 to 4 of R97 and the effect of SET_STEP. -/
def State.setStep (s : State) (p : Port) (tag : Byte) (i pos : Nat) (record : List Byte) : State :=
  let steps := s.recipes.staging.getD i []
  if s.cont.phase = .startup then s.answer p tag .notReady []
  else if 15 < i ∨ 11 < pos ∨ steps.length < pos then s.answer p tag .range []
  else
    match validStep record with
    | none => s.answer p tag .range []
    | some st =>
      (s.setRecipes (s.recipes.setStaging i (writeStep steps pos st))).answer p tag .done
        [byte (writeStep steps pos st).length]

/-- SET_STEP (R97). -/
def execSetStep (p : Port) (tag : Byte) (payload : List Byte) (s : State) : Host.Outcome State Fault Refusal :=
  whenActing (fun s =>
    if p ≠ .cell then s.answer p tag .notPermitted []
    else
      match formSetStep payload with
      | none => s.answer p tag .range []
      | some (i, pos, record) => s.setStep p tag i pos record) s

/-- CLEAR_RECIPE (R97). -/
def execClearRecipe (p : Port) (tag : Byte) (payload : List Byte) (s : State) : Host.Outcome State Fault Refusal :=
  whenActing (fun s =>
    if p ≠ .cell then s.answer p tag .notPermitted []
    else
      match formRecipe payload with
      | none => s.answer p tag .range []
      | some i =>
        if s.cont.phase = .startup then s.answer p tag .notReady []
        else if 15 < i then s.answer p tag .range []
        else (s.setRecipes (s.recipes.setStaging i [])).answer p tag .done []) s

/-- Some run exists (R98, check 3). -/
def State.anyRun (s : State) : Bool := allAxes.any fun a => (s.run a).isSome

/-- The effects of a commit of the recipes (R99). -/
def State.commitRecipes (s : State) : State :=
  (s.setRecipes { s.recipes with active := s.recipes.staging, validity := .valid }).queueRecipeWrite

/-- COMMIT_RECIPES (R98, R99). -/
def execCommitRecipes (p : Port) (tag : Byte) (payload : List Byte) (s : State) : Host.Outcome State Fault Refusal :=
  whenActing (fun s =>
    if p ≠ .cell then s.answer p tag .notPermitted []
    else
      match formNone payload with
      | none => s.answer p tag .range []
      | some _ =>
        if s.cont.phase = .startup ∨ s.cont.pfw then s.answer p tag .notReady []
        else if s.anyRun then s.answer p tag .busy []
        else
          match recipesFailure s.recipes.staging 0 with
          | some (i, pos, check) => s.answer p tag .range [byte i, byte pos, byte check]
          | none =>
            s.event fun t =>
              t.commitRecipes.answer p tag .done (be 2 (changedRecipes t.recipes.active t.recipes.staging))) s

end Sys2Proof.Machine
end

