-- ==== Sys2Proof/Machine/SampleCommands.lean ====
section
/-! DEFINITION. The meanings of the sensor reads and of the samples. -/
namespace Sys2Proof.Machine

/-- READ_EVENT (R28): the end of a poll that polling has begun and no change of profile has discarded; a head axis that
the read makes ready is decided (R163). -/
def execReadEvent (a : Axis) (began : Micros) (frame : List Bool) (s : State) : Host.Outcome State Fault Refusal :=
  whenActing (fun s =>
    if s.pollingSince.isNone ∨ s.pollDiscarded a began then s
    else s.event fun t => (t.takeRead a frame).takeHead a) s

/-- HOME_SWITCH_SAMPLE (R39). -/
def execHomeSwitchSample (a : Axis) (asserted : Bool) (s : State) : Host.Outcome State Fault Refusal :=
  whenActing (State.event fun t => t.sampleSwitch a (if asserted then .active else .inactive)) s

/-- BRAKE_SAMPLE (R40). -/
def execBrakeSample (a : Axis) (asserted : Bool) (s : State) : Host.Outcome State Fault Refusal :=
  whenActing (State.event fun t => t.sampleBrake a (if asserted then .applied else .released)) s

/-- COARSE_SAMPLE (R42); a head axis whose average it makes present is decided (R163). -/
def execCoarseSample (a : Axis) (code : BitVec 12) (s : State) : Host.Outcome State Fault Refusal :=
  whenActing (State.event fun t => (t.sampleCoarse a code.toNat).takeHead a) s

/-- CURRENT_SAMPLE (R129). -/
def execCurrentSample (a : Axis) (value : BitVec 16) (s : State) : Host.Outcome State Fault Refusal :=
  whenActing (State.event fun t => t.sampleCurrent a value) s

end Sys2Proof.Machine
end

