-- ==== Sys2Proof/Machine/TimerCommands.lean ====
section
/-! DEFINITION. The meanings of the expiries. An expiry acts on a timer that runs (log 2); on one that is stopped there
is nothing to expire and nothing changes (log 3). -/
namespace Sys2Proof.Machine

/-- CROSS_CHECK_EXPIRY (R44). -/
def execCrossCheckExpiry (s : State) : Host.Outcome State Fault Refusal :=
  whenActing (State.event State.crossCheck) s

/-- The classification timer starts again and the axis is classified (R130, R131). -/
def State.classExpiry (s : State) (a : Axis) : State :=
  (s.setLoad a { s.load a with classTimer := some classPeriod }).classifyAtRest a

/-- CLASSIFICATION_TIMER_EXPIRY (R131). -/
def execClassificationTimerExpiry (a : Axis) (s : State) : Host.Outcome State Fault Refusal :=
  whenActing (fun s => if (s.load a).classTimer.isSome then s.event fun t => t.classExpiry a else s) s

/-- The sample is classified, written into the record, and handed to the run (R133). -/
def State.loadSampleExpiry (s : State) (a : Axis) : State :=
  let k := s.sampleClass a
  ((s.setLoad a { s.load a with sampleTimer := none }).classifySample a).loadCheckEvent a k

/-- LOAD_SAMPLE_TIMER_EXPIRY (R133). -/
def execLoadSampleTimerExpiry (a : Axis) (s : State) : Host.Outcome State Fault Refusal :=
  whenActing (fun s => if (s.load a).sampleTimer.isSome then s.event fun t => t.loadSampleExpiry a else s) s

/-- The watch goes from IGNORING to WATCHING (R135). -/
def State.ignoreExpiry (s : State) (a : Axis) : State :=
  s.setLoad a { s.load a with watch := .watching, ignoreTimer := none }

/-- RAMP_IGNORE_EXPIRY (R135). -/
def execRampIgnoreExpiry (a : Axis) (s : State) : Host.Outcome State Fault Refusal :=
  whenActing (fun s => if (s.load a).watch = .ignoring then s.event fun t => t.ignoreExpiry a else s) s

/-- The permit record returns to NONE and the run ends (R83). -/
def State.permitExpiry (s : State) (a : Axis) : State :=
  (s.setAuth a (s.auth a).withoutPermit).endRun a .permitTimeout

/-- PERMIT_TIMER_EXPIRY (R83). -/
def execPermitTimerExpiry (a : Axis) (s : State) : Host.Outcome State Fault Refusal :=
  whenActing (fun s =>
    if (s.auth a).permitTimer.isSome ∧ (s.auth a).permit = .wanted then s.event fun t => t.permitExpiry a else s) s

/-- The step is done if AT_REST is set; otherwise the run ends UNSETTLED (R91). -/
def State.settleExpiry (s : State) (a : Axis) : State :=
  let s := s.setSettle a none
  if (s.record a).atRest then s.stepDone a else s.endRun a .unsettled

/-- SETTLE_TIMER_EXPIRY (R91). -/
def execSettleTimerExpiry (a : Axis) (s : State) : Host.Outcome State Fault Refusal :=
  whenActing (fun s => if (s.settleTimers.get a).isSome then s.event fun t => t.settleExpiry a else s) s

/-- The step timer's expiry is handed to the order's run, whose step it defeats (R109, R118). -/
def State.stepExpiry (s : State) : State :=
  match s.slotAxis with
  | some a => (s.setChannel { s.channel with stepTimer := none }).defeatStep a .moveTimeout
  | none => s.setChannel { s.channel with stepTimer := none }

/-- STEP_TIMER_EXPIRY (R109). -/
def execStepTimerExpiry (s : State) : Host.Outcome State Fault Refusal :=
  whenActing (fun s => if s.channel.stepTimer.isSome then s.event State.stepExpiry else s) s

/-- The slot empties, the run ends MOVE_TIMEOUT and the next queued run is posted (R111, R122). -/
def State.acceptExpiry (s : State) : State :=
  let a := s.slotAxis
  let s1 := (s.setChannel s.channel.emptied).emit .moveOrder
  let s2 := match a with
    | some x => s1.endRun x .moveTimeout
    | none => s1
  s2.postIfFree

/-- ACCEPT_TIMER_EXPIRY (R122). -/
def execAcceptTimerExpiry (s : State) : Host.Outcome State Fault Refusal :=
  whenActing (fun s =>
    if s.channel.acceptTimer.isSome ∧ s.channel.slot = .posted then s.event State.acceptExpiry else s) s

/-- The result with which a run ends when its stop goes unanswered (R111). -/
def stopTimeoutResult (r : Run) : RunResult :=
  match r.phase with
  | .ending => r.pendingResult.getD .moveTimeout
  | _ => .moveTimeout

/-- The slot becomes BLOCKED with its order detached, CHANNEL_BLOCKED is handed on, and the order's run ends (R111, R125, R127). -/
def State.stopExpiry (s : State) : State :=
  match s.channel.order with
  | none => s
  | some o =>
    let hadRun := !s.channel.detached
    let s1 := s.setChannel { s.channel with slot := .blocked, detached := true, stopTimer := none }
    let s2 := (s1.emit (.channelBlocked o.axis o.orderId)).orderEnded o.axis
    match s2.run o.axis with
    | some r => if hadRun then s2.endRunOf o.axis r (stopTimeoutResult r) else s2
    | none => s2

/-- STOP_TIMER_EXPIRY (R125). -/
def execStopTimerExpiry (s : State) : Host.Outcome State Fault Refusal :=
  whenActing (fun s =>
    if s.channel.stopTimer.isSome ∧ s.channel.slot = .stopping then s.event State.stopExpiry else s) s

/-- READY is entered, and the park test is made (R147). -/
def State.parkExpiry (s : State) : State :=
  (s.setCont { s.cont with park := .ready, parkTimer := none }).wantParkTest

/-- PARK_TIMER_EXPIRY (R147). -/
def execParkTimerExpiry (s : State) : Host.Outcome State Fault Refusal :=
  whenActing (fun s => if s.cont.park = .timing then s.event State.parkExpiry else s) s

/-- The timer has expired, and the heads whose read status is not TRACKING are decided (R163). -/
def State.sensorWaitExpiry (s : State) : State :=
  (s.setPlanner { s.planner with sensorWait := .expired }).takeWorklist

/-- The sensor wait timer runs. -/
def SensorWait.isRunning : SensorWait → Bool
  | .running _ => true
  | .stopped | .expired => false

/-- SENSOR_WAIT_TIMER_EXPIRY (R163). -/
def execSensorWaitTimerExpiry (s : State) : Host.Outcome State Fault Refusal :=
  whenActing (fun s => if s.planner.sensorWait.isRunning then s.event State.sensorWaitExpiry else s) s

end Sys2Proof.Machine
end

