-- ==== Sys2Proof/Machine/Dispatch.lean ====
section
/-! DEFINITION. The meaning of every command: one arm for each constructor. -/
namespace Sys2Proof.Machine

/-- The effect of a command on everything but the queue. -/
def exec (i : Instr) (s : State) : Host.Outcome State Fault Refusal :=
  match i with
  | .powerOnReset => Sys2Proof.Machine.execPowerOnReset s
  | .powerLoss byteCompletes => Sys2Proof.Machine.execPowerLoss byteCompletes s
  | .externalReset => Sys2Proof.Machine.execExternalReset s
  | .externalResetRelease => Sys2Proof.Machine.execExternalResetRelease s
  | .calibrationStartUpLoad => Sys2Proof.Machine.execCalibrationStartUpLoad s
  | .recipeStartUpLoad => Sys2Proof.Machine.execRecipeStartUpLoad s
  | .startupComplete => Sys2Proof.Machine.execStartupComplete s
  | .pfwAsserted => Sys2Proof.Machine.execPfwAsserted s
  | .pfwDeasserted => Sys2Proof.Machine.execPfwDeasserted s
  | .readEvent a began frame => Sys2Proof.Machine.execReadEvent a began frame s
  | .homeSwitchSample a asserted => Sys2Proof.Machine.execHomeSwitchSample a asserted s
  | .brakeSample a asserted => Sys2Proof.Machine.execBrakeSample a asserted s
  | .coarseSample a code => Sys2Proof.Machine.execCoarseSample a code s
  | .currentSample a value => Sys2Proof.Machine.execCurrentSample a value s
  | .crossCheckExpiry => Sys2Proof.Machine.execCrossCheckExpiry s
  | .classificationTimerExpiry a => Sys2Proof.Machine.execClassificationTimerExpiry a s
  | .loadSampleTimerExpiry a => Sys2Proof.Machine.execLoadSampleTimerExpiry a s
  | .rampIgnoreExpiry a => Sys2Proof.Machine.execRampIgnoreExpiry a s
  | .permitTimerExpiry a => Sys2Proof.Machine.execPermitTimerExpiry a s
  | .settleTimerExpiry a => Sys2Proof.Machine.execSettleTimerExpiry a s
  | .stepTimerExpiry => Sys2Proof.Machine.execStepTimerExpiry s
  | .acceptTimerExpiry => Sys2Proof.Machine.execAcceptTimerExpiry s
  | .stopTimerExpiry => Sys2Proof.Machine.execStopTimerExpiry s
  | .parkTimerExpiry => Sys2Proof.Machine.execParkTimerExpiry s
  | .sensorWaitTimerExpiry => Sys2Proof.Machine.execSensorWaitTimerExpiry s
  | .retentionByteWritten => Sys2Proof.Machine.execRetentionByteWritten s
  | .shortPeriod p edges => Sys2Proof.Machine.execShortPeriod p edges s
  | .fetch p => Sys2Proof.Machine.execFetch p s
  | .frameError p received => Sys2Proof.Machine.execFrameError p received s
  | .unknownKind p kind tag payload => Sys2Proof.Machine.execUnknownKind p kind tag payload s
  | .readAxes p tag payload => Sys2Proof.Machine.execReadAxes p tag payload s
  | .readAxis p tag payload => Sys2Proof.Machine.execReadAxis p tag payload s
  | .readRun p tag payload => Sys2Proof.Machine.execReadRun p tag payload s
  | .readRecovery p tag payload => Sys2Proof.Machine.execReadRecovery p tag payload s
  | .readSlots p tag payload => Sys2Proof.Machine.execReadSlots p tag payload s
  | .readCal p tag payload => Sys2Proof.Machine.execReadCal p tag payload s
  | .readStep p tag payload => Sys2Proof.Machine.execReadStep p tag payload s
  | .readReport p tag payload => Sys2Proof.Machine.execReadReport p tag payload s
  | .identify p tag payload => Sys2Proof.Machine.execIdentify p tag payload s
  | .claim p tag payload => Sys2Proof.Machine.execClaim p tag payload s
  | .release p tag payload => Sys2Proof.Machine.execRelease p tag payload s
  | .forceRelease p tag payload => Sys2Proof.Machine.execForceRelease p tag payload s
  | .inhibit p tag payload => Sys2Proof.Machine.execInhibit p tag payload s
  | .uninhibit p tag payload => Sys2Proof.Machine.execUninhibit p tag payload s
  | .acknowledge p tag payload => Sys2Proof.Machine.execAcknowledge p tag payload s
  | .grantPermit p tag payload => Sys2Proof.Machine.execGrantPermit p tag payload s
  | .refusePermit p tag payload => Sys2Proof.Machine.execRefusePermit p tag payload s
  | .home p tag payload => Sys2Proof.Machine.execHome p tag payload s
  | .abortHome p tag payload => Sys2Proof.Machine.execAbortHome p tag payload s
  | .invalidate p tag payload => Sys2Proof.Machine.execInvalidate p tag payload s
  | .acceptReference p tag payload => Sys2Proof.Machine.execAcceptReference p tag payload s
  | .clearFlags p tag payload => Sys2Proof.Machine.execClearFlags p tag payload s
  | .readMoveOrder p tag payload => Sys2Proof.Machine.execReadMoveOrder p tag payload s
  | .moveAccept p tag payload => Sys2Proof.Machine.execMoveAccept p tag payload s
  | .moveEnd p tag payload => Sys2Proof.Machine.execMoveEnd p tag payload s
  | .channelReset p tag payload => Sys2Proof.Machine.execChannelReset p tag payload s
  | .setCal p tag payload => Sys2Proof.Machine.execSetCal p tag payload s
  | .discardCal p tag payload => Sys2Proof.Machine.execDiscardCal p tag payload s
  | .commitCal p tag payload => Sys2Proof.Machine.execCommitCal p tag payload s
  | .captureZero p tag payload => Sys2Proof.Machine.execCaptureZero p tag payload s
  | .captureCoarse p tag payload => Sys2Proof.Machine.execCaptureCoarse p tag payload s
  | .setStep p tag payload => Sys2Proof.Machine.execSetStep p tag payload s
  | .clearRecipe p tag payload => Sys2Proof.Machine.execClearRecipe p tag payload s
  | .commitRecipes p tag payload => Sys2Proof.Machine.execCommitRecipes p tag payload s
  | .checkpoint p tag payload => Sys2Proof.Machine.execCheckpoint p tag payload s
  | .discardSnapshots p tag payload => Sys2Proof.Machine.execDiscardSnapshots p tag payload s
  | .subscribe p tag payload => Sys2Proof.Machine.execSubscribe p tag payload s

end Sys2Proof.Machine
end

