-- ==== Sys2Proof/Machine/Tick.lean ====
section
/-! DEFINITION. The passing of time on an empty queue (log 1): the timebase advances by 1 µs, the running timers count down,
and the expiry command of each timer that runs out joins the queue. -/
namespace Sys2Proof.Machine

/-- A timer after 1 µs. -/
def Timer.tick (t : Timer) : Timer := t.map fun n => n - 1

/-- A timer runs out in this µs. -/
def Timer.runsOut (t : Timer) : Bool :=
  match t with
  | some n => decide (n ≤ 1)
  | none => false

/-- The sensor wait timer after 1 µs. -/
def SensorWait.tick : SensorWait → SensorWait
  | .running n => .running (n - 1)
  | .stopped => .stopped
  | .expired => .expired

/-- The sensor wait timer runs out in this µs. -/
def SensorWait.runsOut : SensorWait → Bool
  | .running n => decide (n ≤ 1)
  | .stopped | .expired => false

/-- A command, where its timer runs out. -/
def dueIf (due : Bool) (i : Instr) : List Instr := if due then [i] else []

/-- The expiry commands of the timers of one axis. -/
def State.axisExpiries (s : State) (a : Axis) : List Instr :=
  dueIf (Timer.runsOut (s.load a).classTimer) (.classificationTimerExpiry a)
    ++ dueIf (Timer.runsOut (s.load a).sampleTimer) (.loadSampleTimerExpiry a)
    ++ dueIf (Timer.runsOut (s.load a).ignoreTimer) (.rampIgnoreExpiry a)
    ++ dueIf (Timer.runsOut (s.auth a).permitTimer) (.permitTimerExpiry a)
    ++ dueIf (Timer.runsOut (s.settleTimers.get a)) (.settleTimerExpiry a)

/-- The expiry commands of this µs, in the order in which they join the queue (log 26). -/
def State.expiries (s : State) : List Instr :=
  dueIf (decide (s.crossCheckTimer ≤ 1)) .crossCheckExpiry
    ++ allAxes.flatMap s.axisExpiries
    ++ dueIf (Timer.runsOut s.channel.stepTimer) .stepTimerExpiry
    ++ dueIf (Timer.runsOut s.channel.acceptTimer) .acceptTimerExpiry
    ++ dueIf (Timer.runsOut s.channel.stopTimer) .stopTimerExpiry
    ++ dueIf (Timer.runsOut s.cont.parkTimer) .parkTimerExpiry
    ++ dueIf s.planner.sensorWait.runsOut .sensorWaitTimerExpiry

/-- The Load Monitor's timers after 1 µs. -/
def LoadState.tick (l : LoadState) : LoadState :=
  { l with classTimer := Timer.tick l.classTimer, sampleTimer := Timer.tick l.sampleTimer
           ignoreTimer := Timer.tick l.ignoreTimer }

/-- The Move Channel's timers after 1 µs. -/
def MoveChannel.tick (c : MoveChannel) : MoveChannel :=
  { c with acceptTimer := Timer.tick c.acceptTimer, stepTimer := Timer.tick c.stepTimer
           stopTimer := Timer.tick c.stopTimer }

/-- The state after 1 µs, before the expiry commands join the queue. No event of the past µs arrives together with one of the next (R148,
log 39). -/
def State.countDown (s : State) : State :=
  { s with
    now := s.now + 1
    crossCheckTimer := s.crossCheckTimer - 1
    loads := PerAxis.of fun a => (s.load a).tick
    authority := PerAxis.of fun a => { s.auth a with permitTimer := Timer.tick (s.auth a).permitTimer }
    settleTimers := PerAxis.of fun a => Timer.tick (s.settleTimers.get a)
    channel := s.channel.tick
    cont := { s.cont with parkTimer := Timer.tick s.cont.parkTimer }
    planner := { s.planner with sensorWait := s.planner.sensorWait.tick }
    outdatedNow := PerAxis.const false }

/-- What a step does on an empty queue: 1 µs passes in a part that acts; a part without supply or held in reset idles (log 1). -/
def State.tick (s : State) : State :=
  if s.acting then { s.countDown with pending := s.pending ++ s.expiries } else s

end Sys2Proof.Machine
end

