-- ==== Sys2Proof/Machine/Link.lean ====
section
/-! DEFINITION. What the outside sees of a port: the bytes shifted out in a period, and the alert line (R175, R176, R191). -/
namespace Sys2Proof.Machine

/-- The first `n` bytes that a port shifts out in a period: the held response, then zeros; zeros throughout where no
response is held (R175, R176). -/
def State.shiftedOut (s : State) (p : Port) (n : Nat) : List Byte :=
  let frame := match (s.port p).held with
    | some r => r.frame
    | none => []
  (frame ++ List.replicate n 0).take n

/-- The alert line of a port is asserted (R191). -/
def State.alertLine (s : State) (p : Port) : Bool := (s.port p).alert

end Sys2Proof.Machine
end

