-- ==== Sys2Proof/Safety.lean ====
section
/-! DEFINITION. The words in which statements about the block are made: observations of a state, the values after a reset,
what an event leaves in a record, a report or a run, and the properties that every step keeps. -/
namespace Sys2Proof.Machine

/-! ### Observations -/

/-- One byte of retention memory. -/
def State.byteAt (s : State) (n : Nat) : Byte := Memory.read s.retention n

/-- The held response of a port is this one. -/
def State.answered (s : State) (p : Port) (tag : Byte) (code : ResultCode) (payload : List Byte) : Prop :=
  (s.port p).held = some { tag := tag, code := code, payload := payload }

/-- A run of an axis has ended with a result: no run record, and the last-run entry names it (R117). -/
def State.ranTo (s : State) (a : Axis) (r : Run) (res : RunResult) : Prop :=
  s.run a = none ∧ s.lastRuns.get a = some (r.runId, res)

/-- The permit record of an axis is at NONE (R67). -/
def State.noPermit (s : State) (a : Axis) : Prop :=
  (s.auth a).permit = .none ∧ (s.auth a).permitRun = none ∧ (s.auth a).permitTimer = none

/-- The frame part of a record: state, origin, loss cause and epoch (R6 to R8). -/
def AxisRecord.frame (r : AxisRecord) : AxisState × Origin × LossCause × BitVec 16 :=
  (r.state, r.origin, r.lossCause, r.epoch)

/-- A record without what an evaluation of the position and an outdated mark write (R5, R153). -/
def AxisRecord.core (r : AxisRecord) : AxisRecord :=
  { r with position := none, beyondLimit := false, movingSinceCapture := false
           sticky := { r.sticky with arithOverflow := false } }

/-- The commands that the part takes only while it has supply and is not held in reset (R156). -/
def needsActing : Instr → Bool
  | .powerOnReset | .powerLoss _ | .externalReset | .externalResetRelease | .pfwAsserted | .pfwDeasserted => false
  | _ => true

/-- The commands that may write retention memory: the completion of a byte, and what completes one (R143, R144). -/
def mayWriteRetention : Instr → Bool
  | .powerOnReset | .powerLoss _ | .externalReset | .retentionByteWritten => true
  | _ => false

/-- The commands that give every block its reset values (R144, R156). -/
def resetsBlocks : Instr → Bool
  | .powerOnReset | .powerLoss _ | .externalReset => true
  | _ => false

/-- The commands that may change the sets, the editors, the capture points, the validity or the fingerprint of the
Calibration Store (R50 to R57, R64 to R66, R69 to R71). -/
def changesCalibration : Instr → Bool
  | .calibrationStartUpLoad | .setCal .. | .discardCal .. | .commitCal .. | .captureZero .. | .captureCoarse .. => true
  | .claim .. | .release .. | .forceRelease .. => true
  | c => resetsBlocks c

/-- The commands that may change the recipes or their validity (R97 to R100). -/
def changesRecipes : Instr → Bool
  | .recipeStartUpLoad | .setStep .. | .clearRecipe .. | .commitRecipes .. => true
  | c => resetsBlocks c

/-- The commands that may change a claim or an inhibit (R69 to R71, R74, R76). -/
def changesClaims : Instr → Bool
  | .claim .. | .release .. | .forceRelease .. | .inhibit .. | .uninhibit .. => true
  | c => resetsBlocks c

/-- The commands that may change the filtered inputs of an axis: the samples of its switch, brake and coarse channel (R39, R40, R42). -/
def samplesInputs (a : Axis) : Instr → Bool
  | .homeSwitchSample b _ | .brakeSample b _ | .coarseSample b _ => decide (b = a)
  | c => resetsBlocks c

/-- The command is a current sample of an axis, or a reset (R129). -/
def samplesCurrent (a : Axis) : Instr → Bool
  | .currentSample b _ => decide (b = a)
  | c => resetsBlocks c

/-- The command is a read of the position sensor of an axis, or a reset (R2, R28). -/
def readsSensor (a : Axis) : Instr → Bool
  | .readEvent b .. => decide (b = a)
  | c => resetsBlocks c

/-- The port whose chip-select period a command is (R176). -/
def periodPort : Instr → Option Port
  | .shortPeriod p _ | .fetch p | .frameError p _ => some p
  | c => (requestParts c).map fun x => x.1

/-! ### The values after a reset -/

/-- Every block holds the values that a reset gives (R13, R27, R50, R67, R85, R101, R118, R128, R141, R160, R174). -/
def State.atReset (s : State) : Prop :=
  (∀ a : Axis, s.record a = resetRecord ∧ s.sensor a = resetSensor ∧ s.auth a = resetAuth ∧ s.load a = resetLoad
    ∧ s.run a = none ∧ s.settleTimers.get a = none ∧ s.lastRuns.get a = none)
  ∧ (∀ p : Port, s.port p = resetPort)
  ∧ s.cal = resetCal ∧ s.recipes = resetRecipes ∧ s.channel = resetChannel ∧ s.runIdCounter = 1
  ∧ s.cont = resetCont s.cont.pfw ∧ s.link = none ∧ s.planner = resetPlanner ∧ s.parked = false
  ∧ s.crossCheckTimer = 64000 ∧ s.pollingSince = none ∧ s.now = 0

/-! ### Properties that every step keeps -/

/-- Retention memory is in its canonical form. -/
def State.memoryCanonical (s : State) : Prop := Memory.wf s.retention = true

/-- A report queue holds at most 4 records, and the alert line is asserted exactly while it holds one (R174, R191). -/
def PortState.queueOk (x : PortState) : Prop := x.queue.length ≤ 4 ∧ x.alert = !x.queue.isEmpty

/-- Every port's report queue and alert line agree, and its frame-error count is at most 65535 (R174, R191). In STARTUP the
queues are empty, and in RUNNING and HOLDUP no event is kept back for them (R190, log 25). -/
def State.portsOk (s : State) : Prop :=
  ∀ p : Port, (s.port p).queueOk ∧ (s.port p).frameErrors ≤ 65535
    ∧ (s.cont.phase = .startup → (s.port p).queue = [])
    ∧ (s.cont.phase = .running ∨ s.cont.phase = .holdup → (s.port p).gathered = [])

/-- Every turn lies within −32767 to +32767 (R2). -/
def State.turnsOk (s : State) : Prop := ∀ a : Axis, -32767 ≤ (s.record a).turn ∧ (s.record a).turn ≤ 32767

/-- An order is present in every slot state but EMPTY (R118), and the order-id counter lies within 1 to 255. -/
def State.channelOk (s : State) : Prop :=
  (s.channel.order = none ↔ s.channel.slot = .empty) ∧ 1 ≤ s.channel.orderIdCounter ∧ s.channel.orderIdCounter ≤ 255

/-- The permit run id is present exactly when the permit is WANTED or HELD, and the permit timer runs only in WANTED (R67). -/
def State.permitsOk (s : State) : Prop :=
  ∀ a : Axis, ((s.auth a).permitRun = none ↔ (s.auth a).permit = .none)
    ∧ ((s.auth a).permitTimer ≠ none → (s.auth a).permit = .wanted)

/-- Every reported position and BEYOND_LIMIT is what the evaluation of R4 and R5 gives. In STARTUP no axis is framed and no run
exists, so a calibration that is loaded there changes no position. -/
def State.positionsCurrent (s : State) : Prop :=
  (∀ a : Axis, (s.record a).position = (s.evaluated a).reported ∧ (s.record a).beyondLimit = (s.evaluated a).beyond (s.calOf a))
    ∧ (s.cont.phase = .startup → ∀ a : Axis, s.run a = none ∧ (s.record a).state.framed = false)

/-! ### What an event leaves, said of the states before and after it -/

/-- A loss event on an axis: a framed axis loses its frame, a HOMING axis its run, an UNREFERENCED axis keeps its state, and a
RESTORING axis becomes disturbed where its first-read fine is present (R16, R21, R114, R161). -/
def State.tookLoss (s t : State) (a : Axis) (cause : LossCause) : Prop :=
  let r := s.record a
  (r.state.framed = true → (t.record a).frame = (.unreferenced, .none, cause, r.epoch + 1))
  ∧ (r.state = .unreferenced → (t.record a).frame = r.frame)
  ∧ (∀ x, r.state = .homing → s.run a = some x → t.ranTo a x .sensorLost
      ∧ (t.record a).frame = (.unreferenced, .none, .homingFailed, r.epoch))
  ∧ (r.state = .restoring → (t.record a).frame = r.frame
      ∧ t.planner.disturbed.get a = (s.planner.disturbed.get a || (s.planner.firstFine.get a).isSome))

/-- An outdating event on an axis (R147, R148, R153): with a capture in flight the mark is pending; otherwise it is set in the newest slot,
and one that was clear is queued for the link with MOVING_SINCE_CAPTURE set; a PARK capture that the same event starts does not hold it
pending, so that its commit finds no mark of that event. That the axis is pending there where an earlier command of the same µs outdated it
(log 39), and that a mark whose byte goes on the link at once still stands among the waiting marks (log 40), are the model's choice. -/
def State.tookMark (s t : State) (a : Axis) : Prop :=
  (s.cont.capture ≠ none → t.cont.pendingMarks.get a = true)
  ∧ (∀ sl, s.cont.capture = none → s.cont.newest = some sl →
      (t.cont.slot sl).marks.get a = true
      ∧ ((s.cont.slot sl).marks.get a = false → (sl, a) ∈ t.cont.waitingMarks ∧ (t.record a).movingSinceCapture = true)
      ∧ (t.cont.capture ≠ none → (t.record a).state ≠ .restoring → t.cont.pendingMarks.get a = s.outdatedNow.get a))

/-- A delivery with a cause reached a port: its queue has grown by a record, but for a full one, the newest record holds the cause,
and the alert line is asserted (R189, R191). -/
def PortState.received (before after : PortState) (c : Cause) (r : ReportRecord) : Prop :=
  after.queue.getLast? = some r ∧ r.causes.has c = true ∧ after.alert = true
    ∧ after.queue.length = min 4 (before.queue.length + 1)

/-- A queue was left by a command that is no period of its port (R189, R191): as it stood, with one record more and the alert line
asserted, or, where it was full, with its newest record updated. -/
def PortState.sameOrDelivered (before after : PortState) : Prop :=
  (after.queue = before.queue ∧ after.alert = before.alert)
  ∨ ∃ r, (before.queue.length < 4 ∧ after.queue = before.queue ++ [r] ∧ after.alert = true)
      ∨ (4 ≤ before.queue.length ∧ after.queue = before.queue.dropLast ++ [r] ∧ after.alert = before.alert)

/-- AT_REST or BRAKE_APPLIED of an axis has changed. -/
def State.flagsChanged (s t : State) (a : Axis) : Prop :=
  (t.record a).atRest ≠ (s.record a).atRest ∨ (t.record a).brakeApplied ≠ (s.record a).brakeApplied

/-- The parked condition and the park state follow the two flags of an axis (R41, R147): the twelfth flag set is park-begin, which takes
NOT_PARKED to TIMING with the park timer at park_time; a flag cleared while parked is park-end, which leaves NOT_PARKED with the timer
stopped; nothing else changes them. -/
def State.parkFollowed (s t : State) (a : Axis) : Prop :=
  let all := ∀ b, (t.record b).atRest = true ∧ (t.record b).brakeApplied = true
  let kept := t.cont.park = s.cont.park ∧ t.cont.parkTimer = s.cont.parkTimer
  (¬ s.flagsChanged t a → t.parked = s.parked ∧ kept)
  ∧ (s.flagsChanged t a →
      (all → s.parked = false → t.parked = true
        ∧ (s.cont.park = .notParked → t.cont.park = .timing
            ∧ t.cont.parkTimer = some (s.cal.active.device.parkTime * 1000))
        ∧ (s.cont.park ≠ .notParked → kept))
      ∧ (¬ all → s.parked = true → t.parked = false ∧ t.cont.park = .notParked ∧ t.cont.parkTimer = none)
      ∧ (all → s.parked = true → t.parked = true ∧ kept)
      ∧ (¬ all → s.parked = false → t.parked = false ∧ kept))

/-- The classification timer of an axis follows its two flags (R130): it starts with 32 ms when AT_REST set, BRAKE_APPLIED clear and no
live order come to hold together, runs on while they hold, and stops when one ceases to hold. -/
def State.classTimerFollowed (s t : State) (a : Axis) : Prop :=
  let holds := (t.record a).atRest = true ∧ (t.record a).brakeApplied = false ∧ (t.load a).liveOrder = none
  (¬ s.flagsChanged t a → (t.load a).classTimer = (s.load a).classTimer)
  ∧ (s.flagsChanged t a →
      (holds → (t.load a).classTimer = some ((s.load a).classTimer.getD 32000))
      ∧ (¬ holds → (t.load a).classTimer = none))

/-- The position of an axis overflows (R4): it and its coupling source, if it has one, are framed, and the joint value of its motor count
lies outside −2147483647 to +2147483647. -/
def State.overflows (s : State) (a : Axis) : Prop :=
  let j := s.jointExact a (s.count a)
  (s.record a).state.framed = true ∧ (∀ b, (s.calOf a).couplingSource = some b → (s.record b).state.framed = true)
  ∧ ¬ (-2147483647 ≤ j ∧ j ≤ 2147483647)

/-! ### The words of time -/

/-- Every expiry command, in the order in which those of one µs join the queue (log 26). -/
def allExpiries : List Instr :=
  [.crossCheckExpiry]
    ++ allAxes.flatMap (fun a => [.classificationTimerExpiry a, .loadSampleTimerExpiry a, .rampIgnoreExpiry a
                                 , .permitTimerExpiry a, .settleTimerExpiry a])
    ++ [.stepTimerExpiry, .acceptTimerExpiry, .stopTimerExpiry, .parkTimerExpiry, .sensorWaitTimerExpiry]

/-- A timer runs with 1 µs or less left. -/
def runsOutNow (t : Timer) : Prop := ∃ n, t = some n ∧ n ≤ 1

/-! ### The words of the layouts (R196) -/

/-- The 67 bytes of one axis in the calibration region, row by row. -/
def AxisCal.layout (c : AxisCal) : List Byte :=
  beInt 1 c.profile.startGap ++ beInt 1 c.profile.fineWidth ++ beInt 1 c.profile.statusWidth ++ beInt 3 c.refCount
    ++ beInt 4 c.scale ++ beInt 4 c.homePosition
    ++ beInt 1 (match c.couplingSource with
      | none => 0
      | some b => axisNumber b)
    ++ beInt 4 c.couplingScale ++ beInt 1 (if c.coarsePresent then 1 else 0) ++ beInt 2 c.coarseRef ++ beInt 4 c.coarseHome
    ++ beInt 4 c.coarseGain ++ beInt 3 c.coarseTolerance ++ beInt 3 c.emptyWindow ++ beInt 3 c.loadedWindow
    ++ beInt 3 c.movingExtra ++ beInt 2 c.emptyMax ++ beInt 2 c.loadedMax ++ beInt 2 c.contactMargin
    ++ beInt 1 c.contactCount ++ beInt 1 c.rampIgnore ++ beInt 1 c.switchFilter ++ beInt 2 c.restBand
    ++ beInt 2 c.homingSpeed ++ beInt 2 c.moveTimeout ++ beInt 1 ((c.loadDelay : Int) / 10) ++ beInt 1 c.recipeIndex
    ++ beInt 4 c.softLow ++ beInt 4 c.softHigh

/-- The 409 bytes of the calibration image: axes 1 to 6, then the device-wide fields (R62). -/
def CalSet.layout (c : CalSet) : List Byte :=
  c.axes.toList.flatMap AxisCal.layout ++ beInt 2 c.device.parkTime ++ beInt 1 c.device.permitTimeout
    ++ beInt 2 c.device.acceptTimeout ++ beInt 2 c.device.stopTimeout

/-- The ten bytes of a step record. -/
def Step.layout (st : Step) : List Byte :=
  let cond : Byte := match st.cond with
    | .always => 0
    | .ifL0 => 1
    | .ifNotL0 => 2
    | .ifL1 => 3
    | .ifNotL1 => 4
  let way := fun (d : Direction) => (match d with
    | .positive => 0
    | .negative => 1 : Byte)
  match st.body with
  | .seekSwitch d c travel w => [cond, 0, way d, byte c] ++ be 4 travel ++ be 2 w
  | .leaveSwitch d c travel w => [cond, 1, way d, byte c] ++ be 4 travel ++ be 2 w
  | .seekIndex d c travel w => [cond, 2, way d, byte c] ++ be 4 travel ++ be 2 w
  | .moveBy dist c w => [cond, 3, 0, byte c] ++ beInt 4 dist ++ be 2 w
  | .loadCheck => [cond, 4, 0, 0, 0, 0, 0, 0, 0, 0]
  | .settle w => [cond, 5, 0, 0, 0, 0, 0, 0] ++ be 2 w
  | .capture f k =>
    [cond, 6, (match f with
      | .l0 => 0
      | .l1 => 1),
     (match k with
      | .switchActive => 0
      | .loadLoaded => 1
      | .loadEmpty => 2
      | .coarseAboveHome => 3
      | .indexLatched => 4), 0, 0, 0, 0, 0, 0]
  | .mark => [cond, 7, 0, 0, 0, 0, 0, 0, 0, 0]
  | .verifyCoarse => [cond, 8, 0, 0, 0, 0, 0, 0, 0, 0]

/-- The image of the recipes: for each a length byte and twelve step records, zeros behind the last step. -/
def recipesLayout (rs : List (List Step)) : List Byte :=
  rs.flatMap fun steps =>
    byte steps.length :: ((steps.take 12).flatMap Step.layout ++ List.replicate (10 * (12 - steps.length)) 0)

/-- A retention region: the format version 1, an image and its CRC-32. -/
def regionOf (image : List Byte) : List Byte := [1] ++ image ++ be 4 (crc32 image).toNat

/-- Offsets 1 to 117 of a slot: sequence, reason, fingerprint, version, the reserved bytes, and the six entries. -/
def CaptureBuffer.layout (b : CaptureBuffer) : List Byte :=
  be 4 b.sequence.toNat
    ++ [(match b.reason with
      | .powerFail => 0
      | .checkpoint => 1
      | .park => 2 : Byte)]
    ++ be 4 b.fingerprint.toNat ++ [1] ++ List.replicate 35 0
    ++ b.entries.toList.flatMap (fun e =>
      [e.stateCode] ++ beInt 2 e.turn ++ be 3 e.fine ++ [e.originCode] ++ be 2 e.epoch.toNat
        ++ [e.loadCode, e.movingCode, e.stickyCode])

/-- The n-th byte that a capture writes, with its offset in the slot, in the order of R149: the header with the slot state WRITING and the
entries, the six marks clear, the CRC-32, and the slot state COMMITTED. -/
def CaptureBuffer.slotWrite (b : CaptureBuffer) (n : Nat) : Nat × Byte :=
  if n < 118 then (n, ((0x5A : Byte) :: b.layout).getD n 0)
  else if n < 124 then (122 + (n - 118), 0)
  else if n < 128 then (118 + (n - 124), (be 4 (crc32 b.layout).toNat).getD (n - 124) 0)
  else (0, 0xA5)

/-- A region write was queued with its image: it waits, or its first byte is on the link (R63, R99). -/
def State.queuedWrite (t : State) (w : RegionWrite) (owner : LinkOwner) (base : Nat) (region : List Byte) : Prop :=
  w = .waiting region
  ∨ (w = .inProgress region 0 ∧ t.link = some { owner := owner, addr := retentionAddr base, value := region.getD 0 0 })

/-- A region write is served (R63, R99, R143): the byte at its place is on the link, at that place of its region. A write that waited is at its
first byte; one whose byte was just written has gone on to the next, and one that was paused stands where it was. -/
def State.servedWrite (t : State) (old new : RegionWrite) (owner done : LinkOwner) (base : Nat) : Prop :=
  ∃ region n, new = .inProgress region n
    ∧ t.link = some { owner := owner, addr := retentionAddr (base + n), value := region.getD n 0 }
    ∧ ((old = .waiting region ∧ n = 0) ∨ (done = owner ∧ ∃ m, old = .inProgress region m ∧ n = m + 1)
      ∨ (done ≠ owner ∧ old = .inProgress region n))

/-! ### The words of a recovery decision -/

/-- The slot N of R159, which R142 takes where there is no source slot: the intact slot with the newer sequence, A where both are intact
and B is not newer, or the one that is intact. -/
def State.newestRead (s : State) (sl : Option Slot) : Prop :=
  let a := s.readSlot .a
  let b := s.readSlot .b
  let ia := (a.verdict s.cal.fingerprint).intact
  let ib := (b.verdict s.cal.fingerprint).intact
  let newerB := 1 ≤ (b.sequence - a.sequence).toNat ∧ (b.sequence - a.sequence).toNat ≤ 2147483647
  (ia = true → ib = true → newerB → sl = some .b) ∧ (ia = true → ib = true → ¬ newerB → sl = some .a)
  ∧ (ia = true → ib = false → sl = some .a) ∧ (ia = false → ib = true → sl = some .b)
  ∧ (ia = false → ib = false → sl = none)

/-- A directory record shows a slot as it was read (R142); a state byte that is none of the three codes shows as WRITING (log 21). -/
def DirEntry.shows (e : DirEntry) (i : SlotImage) : Prop :=
  e.state = (if i.stateByte = 0 then .empty else if i.stateByte = 0xA5 then .committed else .writing)
  ∧ e.sequence = i.sequence ∧ e.reason = i.reason ∧ e.fingerprint = i.fingerprint ∧ e.marks = i.marks

/-- The snapshot path does not apply to an axis, and the condition named is the first that fails (R165). -/
def State.pathFails (s : State) (a : Axis) : SnapPath → Prop
  | .noSource => s.planner.entries = none
  | .notFramed => ∃ x, s.planner.entries = some x ∧ restorable (x.entries.get a).state = false
  | .outdated => ∃ x, s.planner.entries = some x ∧ restorable (x.entries.get a).state = true ∧ x.marks.get a = true
  | .overload => ∃ x, s.planner.entries = some x ∧ restorable (x.entries.get a).state = true ∧ x.marks.get a = false
      ∧ (x.entries.get a).load = .overload
  | .disturbed => ∃ x, s.planner.entries = some x ∧ restorable (x.entries.get a).state = true ∧ x.marks.get a = false
      ∧ (x.entries.get a).load ≠ .overload ∧ s.planner.disturbed.get a = true
  | .used | .windowExceeded | .turnOutOfRange => False

/-- With a turn and its present fine, the joint value of an axis is in range and lies within T of a coarse joint value (R166, R167). -/
def State.fitsCoarse (s : State) (a : Axis) (coarse turn : Int) : Prop :=
  let j := s.jointExact a (motorCount turn (s.record a).fine (s.cpt a))
  inSignedRange j = true ∧ (j - coarse).natAbs ≤ (s.calOf a).coarseTolerance

/-- A recovery record is that of the coarse path (R167): REBUILT with the one turn of t0 − 1, t0 and t0 + 1 that is in range and fits
the coarse joint value, FAILED with NO_CANDIDATE where none does. Of two that fit it says nothing (log 46). -/
def State.coarseOutcome (s : State) (a : Axis) (d : RecoveryRecord) : Prop :=
  ∀ coarse, s.coarseJoint a = some coarse →
    let fits := fun (t : Int) => (t - s.coarseTurn a coarse).natAbs ≤ 1 ∧ turnInRange t = true ∧ s.fitsCoarse a coarse t
    (∀ t, fits t → (∀ u, fits u → u = t) → d.outcome = .rebuilt ∧ d.reason = some .coarseMatch ∧ d.turn = some t)
    ∧ ((∀ t, ¬ fits t) → d.outcome = .failed ∧ d.reason = some .noCandidate ∧ d.turn = none)

/-- The record of an axis took a recovery outcome (R14): RESTORED with the captured epoch plus 1 and the captured sticky flags beside
its own, REBUILT at epoch 1, FAILED at epoch 1 with its turn. ARITH_OVERFLOW may be set by the evaluation that follows. -/
def AxisRecord.tookOutcome (old new : AxisRecord) (e : Option SnapEntry) (d : RecoveryRecord) : Prop :=
  new.disagreements = 0
  ∧ (∀ x turn, d.outcome = .restored → d.turn = some turn → e = some x →
      let flags := stickyOfBits x.stickyCode
      new.frame = (.provisional, .snapshot, old.lossCause, x.epoch + 1) ∧ new.turn = turn
      ∧ new.sticky.frameError = (old.sticky.frameError || flags.frameError)
      ∧ new.sticky.coarseWarn = (old.sticky.coarseWarn || flags.coarseWarn)
      ∧ new.sticky.contactSeen = (old.sticky.contactSeen || flags.contactSeen)
      ∧ (old.sticky.arithOverflow = true ∨ flags.arithOverflow = true → new.sticky.arithOverflow = true))
  ∧ (∀ turn, d.outcome = .rebuilt → d.turn = some turn →
      new.frame = (.provisional, .rebuilt, old.lossCause, 1) ∧ new.turn = turn
      ∧ new.sticky.frameError = old.sticky.frameError ∧ new.sticky.coarseWarn = old.sticky.coarseWarn
      ∧ new.sticky.contactSeen = old.sticky.contactSeen)
  ∧ (d.outcome = .failed → new.frame = (.unreferenced, .none, .recoveryFailed, 1) ∧ new.turn = old.turn)

/-- The head of the worklist was decided with a recovery record: the record is kept, the axis took the outcome and is marked, and with
an empty rest recovery has ended (R14, R151, R168 to R170). -/
def State.tookDecision (s t : State) (a : Axis) (rest : List Axis) (d : RecoveryRecord) : Prop :=
  t.planner.outcomes.get a = d
  ∧ AxisRecord.tookOutcome (s.record a) (t.record a) (s.planner.entries.map fun x => x.entries.get a) d
  ∧ s.tookMark t a
  ∧ (rest = [] → t.planner.worklist = []
      ∧ t.cont.phase = (if s.cont.pfw || s.cont.powerFailInFlight then .holdup else .running))

/-! ### The words of a delivery -/

/-- The last of the values that a list of events gives. -/
def latest {α : Type} (f : ReportEvent → Option α) (es : List ReportEvent) : Option α := (es.filterMap f).getLast?

/-- What an event puts into the run-result list for an axis (R188). -/
def runResultOf (a : Axis) : ReportEvent → Option (Nat × RunResult)
  | .runEnd b _ id res => if b = a then some (id, res) else none
  | _ => none

/-- What an event puts into the permit-wanted list for an axis (R188). -/
def permitWantedOf (a : Axis) : ReportEvent → Option Nat
  | .permitWanted b id => if b = a then some id else none
  | _ => none

/-- What an event puts into the ack-wanted list for an axis; the pairs of RECOVERY_DONE on the Safety Port alone (R188). -/
def ackWantedOf (p : Port) (a : Axis) : ReportEvent → Option (BitVec 16)
  | .ackWanted b epoch => if b = a then some epoch else none
  | .recoveryDone pairs => if p = .safety then pairs.get a else none
  | _ => none

/-- What an event puts into the blocked order (R188). -/
def blockedOf : ReportEvent → Option (Axis × Nat)
  | .channelBlocked a id => some (a, id)
  | _ => none

/-- An event commits calibration fields of an axis (R188). -/
def commitsAxis (a : Axis) : ReportEvent → Bool
  | .calCommitted axes _ => axes.get a
  | _ => false

/-- An event commits the device-wide calibration fields (R188). -/
def commitsDevice : ReportEvent → Bool
  | .calCommitted _ device => device
  | _ => false

/-- An event brings ACK_WANTED with it: a RECOVERY_DONE with pairs on the Safety Port (R188). -/
def bringsAckWanted (p : Port) : ReportEvent → Bool
  | .recoveryDone pairs => decide (p = .safety) && anyEntry pairs
  | _ => false

/-- A record took a delivery (R187 to R189): the causes joined, the axis list of this moment, and in each list and the blocked order the
latest entry of the delivery, or what stood there. -/
def ReportRecord.tookDelivery (old new : ReportRecord) (p : Port) (v : PerAxis (Option AxisView)) (es : List ReportEvent) : Prop :=
  new.axisList = v
  ∧ (∀ c, new.causes.has c = (old.causes.has c || es.any (fun e => decide (e.cause = c))
      || (decide (c = .ackWanted) && es.any (bringsAckWanted p))))
  ∧ (∀ a, new.runResults.get a = (latest (runResultOf a) es).or (old.runResults.get a)
      ∧ new.permitWanted.get a = (latest (permitWantedOf a) es).or (old.permitWanted.get a)
      ∧ new.ackWanted.get a = (latest (ackWantedOf p a) es).or (old.ackWanted.get a)
      ∧ new.committedAxes.get a = (old.committedAxes.get a || es.any (commitsAxis a)))
  ∧ new.blocked = (latest blockedOf es).or old.blocked
  ∧ new.committedDevice = (old.committedDevice || es.any commitsDevice)

/-! ### The words of a sample and of the park test -/

/-- The exceed count that the test of a magnitude leaves (R136): 0 where no magnitude of 2 or more stands in the contact window; otherwise,
against the smallest of those, 1 more where the magnitude is greater than it plus the margin, and 0 where it is not. -/
def LoadState.testLeaves (l : LoadState) (v : ContactValues) (m n : Nat) : Prop :=
  ((∀ k ∈ l.contactWindow, k < 2) → n = 0)
  ∧ (∀ ref ∈ l.contactWindow, 2 ≤ ref → (∀ k ∈ l.contactWindow, 2 ≤ k → ref ≤ k) →
      n = if ref + v.margin < m then l.exceed + 1 else 0)

/-- An axis differs from the newest slot (R147): there is none, its fingerprint is another, the axis carries a mark there, one alone of
the record and the entry is restorable, or both are and their counts differ by more than rest_band. -/
def State.differsFromNewest (s : State) (a : Axis) : Prop :=
  s.cont.newest = none
  ∨ ∃ sl, s.cont.newest = some sl
      ∧ (let d := s.cont.slot sl
         let e := d.entries.get a
         let mine := restorable (some (s.record a).state)
         d.fingerprint ≠ s.cal.fingerprint ∨ d.marks.get a = true ∨ mine ≠ restorable e.state
         ∨ (mine = true ∧ restorable e.state = true
            ∧ (s.calOf a).restBand < (s.count a - motorCount e.turn e.fine (s.cpt a)).natAbs))

/-! ### The words of a run -/

/-- A capture condition holds for a run (R93). -/
def State.conditionHolds (s : State) (a : Axis) (x : Run) : CaptureCond → Prop
  | .switchActive => (s.sensor a).switchLevel = .active
  | .loadLoaded => (s.record a).loadClass = .loaded
  | .loadEmpty => (s.record a).loadClass = .empty
  | .coarseAboveHome => ∃ j, s.coarseJoint a = some j ∧ (s.calOf a).homePosition < j
  | .indexLatched => x.latch ≠ none

/-- The run waits in a SETTLE of `w` ms, `n` positions behind its step in hand (R91). -/
def State.settles (s t : State) (a : Axis) (x : Run) (n w : Nat) : Prop :=
  t.run a = some { x with position := x.position + n, orderId := none, phase := .settling, stepStart := some s.now }
    ∧ t.settleTimers.get a = some (w * 1000)

/-- A MARK was taken, with a SETTLE of `w` ms behind it (R3, R94): without a latch, or where the turn would leave its range, the run
ends NO_INDEX; otherwise the latched turn is taken from the turn and the run goes on, marked, with the latch at turn 0. -/
def State.tookMarkStep (s t : State) (a : Axis) (x : Run) (w : Nat) : Prop :=
  (x.latch = none → t.ranTo a x .noIndex)
  ∧ (∀ l, x.latch = some l → (s.record a).state = .homing →
      let turn := (s.record a).turn - l.fdiv (s.cpt a : Int)
      (turnInRange turn = false → t.ranTo a x .noIndex)
      ∧ (turnInRange turn = true →
          s.settles t a { x with marked := true, latch := some (l.emod (s.cpt a : Int)) } 2 w
          ∧ (t.record a).turn = turn ∧ (t.record a).fine = (s.record a).fine ∧ (t.record a).frame = (s.record a).frame))

/-- A VERIFY_COARSE was taken, with a SETTLE of `w` ms behind it (R95). -/
def State.tookVerifyStep (s t : State) (a : Axis) (x : Run) (w : Nat) : Prop :=
  ((s.calOf a).coarsePresent = false → s.settles t a x 2 w)
  ∧ ((s.calOf a).coarsePresent = true →
      (x.marked = false → t.ranTo a x .notMarked)
      ∧ (x.marked = true → s.sourceFramed a = false ∨ s.coarseJoint a = none → t.ranTo a x .coarseMismatch)
      ∧ (∀ coarse, x.marked = true → s.sourceFramed a = true → s.coarseJoint a = some coarse →
          (s.fitsCoarse a coarse (s.record a).turn → s.settles t a x 2 w)
          ∧ (¬ s.fitsCoarse a coarse (s.record a).turn → t.ranTo a x .coarseMismatch)))

/-- The order that a step asks, and its step time in ms (R86, R87): homing_speed times the class over 8, rounded down and raised to 1; the
step's direction and travel, or the sign and the magnitude of its distance; move_timeout for a time of 0 and for a LOAD_CHECK. -/
def StepBody.asksOrder (c : AxisCal) (body : StepBody) (o : OrderParts) (time : Nat) : Prop :=
  let speed := fun (k : Nat) => if c.homingSpeed * k < 8 then 1 else c.homingSpeed * k / 8
  let within := fun (w : Nat) => if w = 0 then c.moveTimeout else w
  match body with
  | .seekSwitch d k travel w | .leaveSwitch d k travel w | .seekIndex d k travel w =>
    o = { kind := .jog, direction := some d, speed := some (speed k), distance := some travel, loadDelay := none } ∧ time = within w
  | .moveBy dist k w =>
    o.kind = .moveBy ∧ (0 < dist → o.direction = some .positive) ∧ (dist < 0 → o.direction = some .negative)
      ∧ o.speed = some (speed k) ∧ o.distance = some dist.natAbs ∧ o.loadDelay = none ∧ time = within w
  | .loadCheck =>
    o = { kind := .hold, direction := none, speed := none, distance := none, loadDelay := some c.loadDelay } ∧ time = c.moveTimeout
  | .settle _ | .capture .. | .mark | .verifyCoarse => False

/-- The order of a run's step was posted, with `rest` waiting behind it (R87, R108, R120): the slot holds it under the next order id with the
contact values in force, its accept and step timers run, the run is ORDERED from now on, and a SEEK_INDEX has set the index watch. -/
def State.orderPosted (s t : State) (a : Axis) (x : Run) (body : StepBody) (o : OrderParts) (rest : List Axis) : Prop :=
  let c := s.calOf a
  t.run a = some { x with phase := .ordered, orderId := some s.channel.orderIdCounter, stepStart := some s.now }
  ∧ body.asksOrder c o (stepTime c body)
  ∧ t.channel =
      { slot := .posted
        order := some { orderId := s.channel.orderIdCounter, runId := x.runId, axis := a, kind := o.kind, direction := o.direction
                        speed := o.speed, distance := o.distance, stop := false, contactMargin := c.contactMargin
                        contactCount := c.contactCount, rampIgnore := c.rampIgnore, loadDelay := o.loadDelay }
        detached := false, queue := rest
        orderIdCounter := if s.channel.orderIdCounter < 255 then s.channel.orderIdCounter + 1 else 1
        acceptTimer := some (s.cal.active.device.acceptTimeout * 1000), stepTimer := some (stepTime c body * 1000)
        stopTimer := none }
  ∧ (∀ v l w, body = .seekIndex .positive v l w → (t.sensor a).indexWatch = .positive)
  ∧ (∀ v l w, body = .seekIndex .negative v l w → (t.sensor a).indexWatch = .negative)

/-- STOP was posted for the order in the slot: the stop timer runs alone, `queue` waits, and the run of the axis is in a phase with a
pending result (R109, R123). STOP for an ACTIVE order is order-stopped: the watch goes OFF, its timers stop, and the order stays live (R132). -/
def State.postedStop (s t : State) (a : Axis) (x : Run) (o : Order) (phase : RunPhase) (pending : Option RunResult)
    (queue : List Axis) : Prop :=
  t.run a = some { x with phase := phase, pendingResult := pending }
  ∧ t.channel = { s.channel with
      slot := .stopping, order := some { o with stop := true }, acceptTimer := none, stepTimer := none
      stopTimer := some (s.cal.active.device.stopTimeout * 1000), queue := queue }
  ∧ (s.channel.slot = .active → (t.load a).watch = .off ∧ (t.load a).ignoreTimer = none ∧ (t.load a).sampleTimer = none
      ∧ (t.load a).liveOrder = (s.load a).liveOrder)

/-- The order of a run's axis is POSTED or ACTIVE in the slot (R109, R118). -/
def State.hasLiveOrder (s : State) (a : Axis) (o : Order) : Prop :=
  s.channel.order = some o ∧ o.axis = a ∧ (s.channel.slot = .posted ∨ s.channel.slot = .active)

/-- An abort of the run of an axis ends it at once: it waits for its permit or for the slot, or settles (R75, R112). -/
def State.abortEndsAtOnce (s : State) (a : Axis) : Bool :=
  match s.run a with
  | some x => decide (x.phase = .waitPermit) || decide (x.phase = .waitChannel) || decide (x.phase = .settling)
  | none => false

/-- The wait queue once the runs of the axes named were aborted: those that end at once have left it, and the others keep their order
(R72, R75, R112, R119). -/
def State.queueAfterAborts (s : State) (aborted : Axis → Bool) : List Axis :=
  s.channel.queue.filter fun b => !(aborted b && s.abortEndsAtOnce b)

/-- A run took an abort by its phase (R16, R75, R112): it ended at once; or STOP was posted for its order and it is ENDING with the
result pending; or the stop under way is awaited in ENDING; or, in ENDING, the run stands as it is. A stop under way is kept. -/
def State.tookAbort (s t : State) (a : Axis) (x : Run) (res : RunResult) : Prop :=
  ((x.phase = .waitPermit ∨ x.phase = .waitChannel ∨ x.phase = .settling) → t.ranTo a x res
      ∧ t.settleTimers.get a = none ∧ (t.record a).frame = (.unreferenced, .none, .homingFailed, (s.record a).epoch))
  ∧ ((x.phase = .ordered ∨ x.phase = .moving) → t.run a = some { x with phase := .ending, pendingResult := some res }
      ∧ ∀ o, s.hasLiveOrder a o → s.postedStop t a x o .ending (some res) t.channel.queue)
  ∧ (x.phase = .stopping → t.run a = some { x with phase := .ending, pendingResult := some res })
  ∧ (x.phase = .ending → t.run a = some x)
  ∧ (s.channel.slot = .stopping → t.channel = { s.channel with queue := t.channel.queue })

/-- A sample at a level changes the switch level: the candidate at that level is switch_filter old (R39), or the sample is the first
after a reset and differs from the level that the model has until then (the model's choice, log 10). -/
def State.switchChanges (s : State) (a : Axis) (level : SwitchLevel) : Prop :=
  let x := s.sensor a
  let since := match x.switchCandidate with
    | some c => c.2
    | none => s.now
  x.switchLevel ≠ level ∧ (x.switchSampled = false ∨ (s.calOf a).switchFilter * 1000 ≤ s.now - since)

/-- A step that asks an order was taken (R107, R119, R120): with the slot free and nobody waiting its order is posted, otherwise the run
joins the wait queue at its tail, whose head takes a free slot. -/
def State.askedOrder (s t : State) (a : Axis) (x : Run) (body : StepBody) (o : OrderParts) (free : Bool) : Prop :=
  let waits := t.run a = some { x with position := x.position + 1, phase := .waitChannel, orderId := none, stepStart := none }
  (free = true → s.channel.queue = [] → s.orderPosted t a { x with position := x.position + 1 } body o [])
  ∧ (∀ b rest y st p, free = true → s.channel.queue = b :: rest → a ∉ s.channel.queue → s.run b = some y → s.stepOf y = some st →
      orderParts (s.calOf b) st.body = some p → waits ∧ s.orderPosted t b y st.body p (rest ++ [a]))
  ∧ (free = false → waits ∧ t.channel.queue = s.channel.queue ++ [a])

/-- The step in hand of a run was done, and the steps behind it were taken until the run waits or ends (R88, R107, R115). Steps that are
done at once are shown before a SETTLE; `free` says whether the order slot was free. -/
def State.wentOn (s t : State) (a : Axis) (x : Run) (free : Bool) : Prop :=
  let next := (s.recipeOf x).drop (x.position + 1)
  (next = [] → t.ranTo a x (if x.marked then .homed else .notMarked))
  ∧ (∀ st rest, next = st :: rest → st.cond.holds x.l0 x.l1 = true →
      (∀ w, st.body = .settle w → s.settles t a x 1 w)
      ∧ (∀ o, orderParts (s.calOf a) st.body = some o → (∀ l, soughtLevel st.body = some l → (s.sensor a).switchLevel ≠ l) →
          s.askedOrder t a x st.body o free))
  ∧ (∀ st w rest, next = st :: ⟨.always, .settle w⟩ :: rest →
      (st.cond.holds x.l0 x.l1 = false → s.settles t a x 2 w)
      ∧ (st.cond.holds x.l0 x.l1 = true →
          (soughtLevel st.body = some (s.sensor a).switchLevel → s.settles t a x 2 w)
          ∧ (∀ f k v, st.body = .capture f k → (v = true ↔ s.conditionHolds a x k) → s.settles t a (x.setFlag f v) 2 w)
          ∧ (st.body = .mark → s.tookMarkStep t a x w)
          ∧ (st.body = .verifyCoarse → s.tookVerifyStep t a x w)))

end Sys2Proof.Machine
end

