-- ==== Sys2Proof/Certificates/Slice0/Obligations.lean ====
section
/-! DEFINITION. The statements about the block for the provers. -/

open Sys2Proof Sys2Proof.Machine

/-! ### Steps, time and resets -/

/-- A step takes the command at the front of the queue and runs it with the queue's rest (derived from R12 and R179; the
queue is the model's, log 26). -/
def Obligations.StepTakesTheFrontCommand : Prop :=
  ∀ (s : State) (c : Instr) (rest : List Instr),
    step { s with pending := c :: rest } = exec c { s with pending := rest }

/-- On an empty queue 1 µs passes in a part that acts: the timebase advances, every timer of the block counts down, the expiry command of
each timer that ran with 1 µs or less left joins the queue and no other command does, and no record, run, port or byte of retention memory
changes; a part that does not act idles (R44, R83, R91, R109, R111, R130, R133, R135, R147, R163; that time passes on an empty queue is the
model's choice, log 1, and so are the order of the expiries, log 26, and that an event of the past µs no longer arrives together with a
freeze, log 39). -/
def Obligations.IdleStepPassesOneMicrosecond : Prop :=
  ∀ s : State, s.pending = [] →
    (s.acting = false → step s = .next s)
    ∧ (s.acting = true → ∃ t : State, step s = .next t
        ∧ t.now = s.now + 1 ∧ t.crossCheckTimer = s.crossCheckTimer - 1
        ∧ t.pending = s.expiries ∧ t.pending.Sublist allExpiries
        ∧ (Instr.crossCheckExpiry ∈ t.pending ↔ s.crossCheckTimer ≤ 1)
        ∧ (∀ a, (Instr.classificationTimerExpiry a ∈ t.pending ↔ runsOutNow (s.load a).classTimer)
          ∧ (Instr.loadSampleTimerExpiry a ∈ t.pending ↔ runsOutNow (s.load a).sampleTimer)
          ∧ (Instr.rampIgnoreExpiry a ∈ t.pending ↔ runsOutNow (s.load a).ignoreTimer)
          ∧ (Instr.permitTimerExpiry a ∈ t.pending ↔ runsOutNow (s.auth a).permitTimer)
          ∧ (Instr.settleTimerExpiry a ∈ t.pending ↔ runsOutNow (s.settleTimers.get a)))
        ∧ (Instr.stepTimerExpiry ∈ t.pending ↔ runsOutNow s.channel.stepTimer)
        ∧ (Instr.acceptTimerExpiry ∈ t.pending ↔ runsOutNow s.channel.acceptTimer)
        ∧ (Instr.stopTimerExpiry ∈ t.pending ↔ runsOutNow s.channel.stopTimer)
        ∧ (Instr.parkTimerExpiry ∈ t.pending ↔ runsOutNow s.cont.parkTimer)
        ∧ (Instr.sensorWaitTimerExpiry ∈ t.pending ↔ ∃ n, s.planner.sensorWait = .running n ∧ n ≤ 1)
        ∧ (∀ a, (t.load a).classTimer = (s.load a).classTimer.map (· - 1)
          ∧ (t.load a).sampleTimer = (s.load a).sampleTimer.map (· - 1)
          ∧ (t.load a).ignoreTimer = (s.load a).ignoreTimer.map (· - 1)
          ∧ (t.load a).window = (s.load a).window ∧ (t.load a).watch = (s.load a).watch
          ∧ t.auth a = { s.auth a with permitTimer := (s.auth a).permitTimer.map (· - 1) }
          ∧ t.settleTimers.get a = (s.settleTimers.get a).map (· - 1))
        ∧ t.channel = { s.channel with
            acceptTimer := s.channel.acceptTimer.map (· - 1), stepTimer := s.channel.stepTimer.map (· - 1)
            stopTimer := s.channel.stopTimer.map (· - 1) }
        ∧ t.cont = { s.cont with parkTimer := s.cont.parkTimer.map (· - 1) }
        ∧ (∀ n, s.planner.sensorWait = .running n → t.planner = { s.planner with sensorWait := .running (n - 1) })
        ∧ (s.planner.sensorWait.isRunning = false → t.planner = s.planner)
        ∧ t.records = s.records ∧ t.runs = s.runs ∧ t.ports = s.ports ∧ t.retention = s.retention ∧ t.sensors = s.sensors
        ∧ t.cal = s.cal ∧ t.recipes = s.recipes ∧ (∀ a, t.outdatedNow.get a = false))

/-- The values that R13, R27, R50, R67, R101, R118, R128, R141, R160 and R174 give for reset, in the state after a power-on reset (the
PFW and reset inputs deasserted: log 9), with the defaults of 3.2. The end of STARTUP fills the slot directory and the newest slot, and the
first sample gives the switch level (log 10): they are not stated. The recipes, which R85 gives from their load on, are empty and INVALID
before it (log 30). The model's own fields are at their start values too: the switch-sampled mark, the profile-change time, the
events that a port gathers, and the queue of commands (log 10, log 11, log 25, log 26, log 27). -/
def Obligations.ResetStateHasTheResetValues : Prop :=
  (∀ a : Axis, State.reset.record a =
      { state := .restoring, origin := .none, lossCause := .powerReset, turn := 0, fine := 0, epoch := 0
        loadClass := .unknown, atRest := false, brakeApplied := false, beyondLimit := false, movingSinceCapture := false
        sticky := ⟨false, false, false, false⟩, disagreements := 0, runId := none, position := none })
  ∧ (∀ a : Axis, State.reset.auth a =
      { claim := none, inhibited := true, permit := .none, permitRun := none, permitTimer := none })
  ∧ (∀ a : Axis, State.reset.run a = none ∧ State.reset.lastRuns.get a = none) ∧ State.reset.runIdCounter = 1
  ∧ State.reset.channel =
      { slot := .empty, order := none, detached := false, queue := [], orderIdCounter := 1, acceptTimer := none
        stepTimer := none, stopTimer := none }
  ∧ State.reset.cont.phase = .startup ∧ State.reset.cont.capture = none ∧ State.reset.cont.owed = false
  ∧ (∀ a : Axis, State.reset.cont.pendingMarks.get a = false) ∧ State.reset.cont.waitingSlotWrites = []
  ∧ State.reset.cont.waitingMarks = []
  ∧ State.reset.cont.park = .notParked ∧ State.reset.cont.parkTimer = none
  ∧ (∀ p : Port, State.reset.port p =
      { held := none, frameErrors := 0, axisMask := ⟨true, true, true, true, true, true⟩
        causeMask := ⟨true, true, true, true, true, true, true, true, true⟩, queue := [], alert := false
        gathered := [] })
  ∧ (∀ a : Axis, State.reset.sensor a =
      { readStatus := .starting, failedReads := 0, restAnchor := none, restStart := none, indexWatch := .off
        switchLevel := (State.reset.sensor a).switchLevel, switchSampled := false, switchCandidate := none, brakeLevel := none
        previousBrake := none, coarseWindow := [], coarseAverage := none, profileChangedAt := none })
  ∧ State.reset.parked = false ∧ State.reset.crossCheckTimer = 64000
  ∧ (∀ a : Axis, State.reset.cal.active.axes.get a =
      { profile := { startGap := 0, fineWidth := 16, statusWidth := 0 }, refCount := 0, scale := 16777216, homePosition := 0
        couplingSource := none, couplingScale := 0, coarsePresent := false, coarseRef := 0, coarseHome := 0, coarseGain := 0
        coarseTolerance := 0, emptyWindow := 32, loadedWindow := 128, movingExtra := 256, emptyMax := 50, loadedMax := 400
        contactMargin := 100, contactCount := 4, rampIgnore := 100, switchFilter := 3, restBand := 16, homingSpeed := 256
        moveTimeout := 10000, loadDelay := 200, recipeIndex := 0, softLow := -2147483647, softHigh := 2147483647 })
  ∧ State.reset.cal.active.device = { parkTime := 500, permitTimeout := 5, acceptTimeout := 200, stopTimeout := 500 }
  ∧ State.reset.cal.staging = State.reset.cal.active ∧ State.reset.cal.deviceEditor = none
  ∧ (∀ a : Axis, State.reset.cal.axisEditor.get a = none ∧ State.reset.cal.points.get a = ⟨none, none⟩)
  ∧ State.reset.cal.validity = .invalid ∧ State.reset.cal.fingerprint = crc32 State.reset.cal.active.image
  ∧ State.reset.cal.write = .none
  ∧ State.reset.recipes.active = List.replicate 16 [] ∧ State.reset.recipes.staging = List.replicate 16 []
  ∧ State.reset.recipes.validity = .invalid ∧ State.reset.recipes.write = .none
  ∧ (∀ a : Axis, State.reset.load a =
      { window := [], classTimer := none, liveOrder := none, contactValues := none, sampleTimer := none, watch := .off
        ignoreTimer := none, contactWindow := [], exceed := 0 })
  ∧ State.reset.planner.verdictA = none ∧ State.reset.planner.verdictB = none ∧ State.reset.planner.source = none
  ∧ State.reset.planner.entries = none ∧ State.reset.planner.worklist = [] ∧ State.reset.planner.sensorWait = .stopped
  ∧ (∀ a : Axis, State.reset.planner.firstFine.get a = none ∧ State.reset.planner.disturbed.get a = false
      ∧ State.reset.planner.outcomes.get a =
          { outcome := .pending, reason := none, path := none, delta := none, window := none, turn := none, source := none })
  ∧ State.reset.pending = []

/-- The state after a power-on reset has every property that the invariants below keep. -/
def Obligations.ResetStateSatisfiesTheInvariants : Prop :=
  State.reset.memoryCanonical ∧ State.reset.portsOk ∧ State.reset.turnsOk ∧ State.reset.channelOk ∧ State.reset.permitsOk
    ∧ State.reset.positionsCurrent

/-- POWER_ON_RESET, EXTERNAL_RESET and POWER_LOSS give every block its reset values, whatever it held, and EXTERNAL_RESET_RELEASE
lets the part act from them. Retention memory keeps its bytes but for the byte in progress, which is complete after a reset, and
after a loss of supply that lasts long enough (R13, R140, R144, R156). The model's own choices in it: a reset taken when it takes effect
(log 5), the PFW level kept (log 9), the switch level before its first sample (log 10), the directory before the examination (log 21),
the recipes before their load and the timebase at 0 (log 30), the queue of commands kept (log 26, log 27). -/
def Obligations.ResetsAndLossOfSupplyGiveTheResetValues : Prop :=
  (∀ s : State, s.memoryCanonical → ∃ t : State, exec .powerOnReset s = .next t
    ∧ t.supply = true ∧ t.resetInput = s.resetInput ∧ t.cont.pfw = s.cont.pfw ∧ t.atReset
    ∧ (∀ n, (∀ x, s.link = some x → x.addr.val ≠ n) → t.byteAt n = s.byteAt n)
    ∧ (∀ x, s.link = some x → t.byteAt x.addr.val = x.value) ∧ t.pending = s.pending)
  ∧ ((∀ s : State, s.acting = true → s.memoryCanonical → ∃ t : State, exec .externalReset s = .next t
    ∧ t.supply = true ∧ t.resetInput = true ∧ t.acting = false ∧ t.cont.pfw = s.cont.pfw ∧ t.atReset
    ∧ (∀ n, (∀ x, s.link = some x → x.addr.val ≠ n) → t.byteAt n = s.byteAt n)
    ∧ (∀ x, s.link = some x → t.byteAt x.addr.val = x.value) ∧ t.pending = s.pending)
  ∧ (∀ s : State, exec .externalResetRelease s = .next { s with resetInput := false }))
  ∧ (∀ (s : State) (completes : Bool), s.supply = true → s.memoryCanonical →
    ∃ t : State, exec (.powerLoss completes) s = .next t
      ∧ t.supply = false ∧ t.acting = false ∧ t.atReset
      ∧ (∀ n, (∀ x, s.link = some x → x.addr.val ≠ n) → t.byteAt n = s.byteAt n)
      ∧ (completes = true → ∀ x, s.link = some x → t.byteAt x.addr.val = x.value) ∧ t.pending = s.pending)

/-- A part without supply or held in reset takes no period, poll, sample or expiry and writes nothing (R156; log 3). -/
def Obligations.NothingIsTakenWhileThePartDoesNotAct : Prop :=
  ∀ (s : State) (c : Instr), s.acting = false → needsActing c = true → exec c s = .next s

/-! ### Invariants -/

/-- Every step keeps retention memory in its canonical form (log 7, log 8). -/
def Obligations.EveryStepKeepsMemoryCanonical : Prop :=
  ∀ s t : State, s.memoryCanonical → step s = .next t → t.memoryCanonical

/-- Every step keeps each report queue at 0 to 4 records, with the alert line asserted exactly while it holds one, and each
frame-error count within 0 to 65535 (R174, R191). It keeps the queues empty in STARTUP, and in RUNNING
and HOLDUP keeps no event back (R190; that the events of STARTUP join the first delivery after it is the model's reading, log 25). -/
def Obligations.EveryStepKeepsQueuesAndAlertLines : Prop :=
  ∀ s t : State, s.portsOk → step s = .next t → t.portsOk

/-- Every step keeps every turn within −32767 to +32767 (R2). -/
def Obligations.EveryStepKeepsTurnsInRange : Prop :=
  ∀ s t : State, s.turnsOk → step s = .next t → t.turnsOk

/-- Every step keeps an order in every slot state but EMPTY, and the order-id counter within 1 to 255 (R118). -/
def Obligations.EveryStepKeepsSlotAndOrderTogether : Prop :=
  ∀ s t : State, s.channelOk → step s = .next t → t.channelOk

/-- Every step keeps the permit run id present exactly in WANTED and HELD, and the permit timer running only in WANTED (R67). -/
def Obligations.EveryStepKeepsPermitRecords : Prop :=
  ∀ s t : State, s.permitsOk → step s = .next t → t.permitsOk

/-- Every step keeps each reported position and BEYOND_LIMIT current: they are what the evaluation gives for the motor counts, the states
and the calibration as they stand, however an axis or its coupling source has changed; in STARTUP no axis is framed (R4, R5). -/
def Obligations.EveryStepKeepsPositionsCurrent : Prop :=
  ∀ s t : State, s.positionsCurrent → step s = .next t → t.positionsCurrent

/-- Only the completion of a byte, a reset and a loss of supply write retention memory or restart the timebase; the supply changes only
with POWER_ON_RESET and POWER_LOSS, the reset input only with EXTERNAL_RESET and its release, and the PFW level only with PFW_ASSERTED
and PFW_DEASSERTED (R140, R141, R143 to R145, R151, R156). That no command takes or adds a command of the queue and that time passes
on an empty queue alone are the model's (log 1, log 26, log 27). -/
def Obligations.OnlyTheLinkAndResetsWriteRetention : Prop :=
  ∀ (s t : State) (c : Instr), exec c s = .next t →
    t.pending = s.pending
    ∧ (mayWriteRetention c = false → (∀ n, t.byteAt n = s.byteAt n) ∧ t.now = s.now)
    ∧ (c ≠ .powerOnReset → (∀ b, c ≠ .powerLoss b) → t.supply = s.supply)
    ∧ (c ≠ .externalReset → c ≠ .externalResetRelease → t.resetInput = s.resetInput)
    ∧ (c ≠ .pfwAsserted → c ≠ .pfwDeasserted → t.cont.pfw = s.cont.pfw)

/-- Only a reset, the load and the requests that the spec names for it change a store: every other command keeps the sets, the
editors, the points, the validity and the fingerprint of the Calibration Store, and the recipes and their validity (R50 to R57,
R63 to R66, R85, R97 to R100). Only a reset and the requests of R69 to R71, R74 and R76 change a claim or an inhibit; only a reset and
the samples of an axis change its switch level, its brake level, its coarse window and average and its current window; only a reset
and a read of an axis change its fine (R2, R39, R40, R42, R129). -/
def Obligations.OnlyItsCommandsChangeAStoreAClaimOrAnInput : Prop :=
  ∀ (s t : State) (c : Instr) (a : Axis), exec c s = .next t →
    (changesCalibration c = false → t.cal.active = s.cal.active ∧ t.cal.staging = s.cal.staging
      ∧ t.cal.axisEditor = s.cal.axisEditor ∧ t.cal.deviceEditor = s.cal.deviceEditor ∧ t.cal.points = s.cal.points
      ∧ t.cal.validity = s.cal.validity ∧ t.cal.fingerprint = s.cal.fingerprint)
    ∧ (changesRecipes c = false → t.recipes.active = s.recipes.active ∧ t.recipes.staging = s.recipes.staging
      ∧ t.recipes.validity = s.recipes.validity)
    ∧ (changesClaims c = false → (t.auth a).claim = (s.auth a).claim ∧ (t.auth a).inhibited = (s.auth a).inhibited)
    ∧ (samplesInputs a c = false → (t.sensor a).switchLevel = (s.sensor a).switchLevel
      ∧ (t.sensor a).switchCandidate = (s.sensor a).switchCandidate ∧ (t.sensor a).brakeLevel = (s.sensor a).brakeLevel
      ∧ (t.sensor a).previousBrake = (s.sensor a).previousBrake ∧ (t.sensor a).coarseWindow = (s.sensor a).coarseWindow
      ∧ (t.sensor a).coarseAverage = (s.sensor a).coarseAverage)
    ∧ (samplesCurrent a c = false → (t.load a).window = (s.load a).window)
    ∧ (readsSensor a c = false → (t.record a).fine = (s.record a).fine)

/-- A period of one port leaves the held response, the frame-error count and the masks of the others, and a command that is no
period leaves those of every port, unless it resets the part (R174, R176). Such a command changes a report queue by one delivery alone: a
record more with the alert line asserted, or an update of the newest record of a full queue; the records before it stand, and the alert line
never falls (R189, R191). -/
def Obligations.OnlyItsPeriodsAndDeliveriesChangeAPort : Prop :=
  ∀ (s t : State) (c : Instr) (p : Port), exec c s = .next t → resetsBlocks c = false → periodPort c ≠ some p →
    (t.port p).held = (s.port p).held ∧ (t.port p).frameErrors = (s.port p).frameErrors
      ∧ (t.port p).axisMask = (s.port p).axisMask ∧ (t.port p).causeMask = (s.port p).causeMask
      ∧ (s.port p).sameOrDelivered (t.port p)

/-! ### Start-up and the power-fail warning -/

/-- CALIBRATION_START_UP_LOAD: a good region becomes the active set, VALID with the CRC-32 of its image as the fingerprint; otherwise the defaults, INVALID, and every record
becomes UNREFERENCED with CALIBRATION_INVALID, its epoch kept, and the fingerprint is that of the defaults; staging is a copy, no editor, no capture point, no write, and
polling begins (R28, R66). RECIPE_START_UP_LOAD: a good region becomes the active recipes, VALID; otherwise sixteen empty recipes,
INVALID; staging is a copy and there is no write (R100). The addresses 0, 1, 414 and 415 are the model's layout (log 8); a coupling
source, a coarse-present byte, a recipe length or a step record that the layout does not give is read as the model chooses (log 23). -/
def Obligations.StartUpLoadsTakeTheRegionOrTheDefaults : Prop :=
  (∀ s : State, s.acting = true → s.cont.phase = .startup → s.cal.loaded = false →
    ∃ t : State, exec .calibrationStartUpLoad s = .next t
      ∧ t.pollingSince = some s.now ∧ t.cal.staging = t.cal.active ∧ t.cal.deviceEditor = none
      ∧ (∀ a, t.cal.axisEditor.get a = none ∧ t.cal.points.get a = ⟨none, none⟩) ∧ t.cal.write = .none
      ∧ t.cal.loaded = true ∧ t.retention = s.retention
      ∧ (calRegionGood (s.retention.readBytes 0 414) = true →
          t.cal.active = calSetOfImage (s.retention.readBytes 1 409) ∧ t.cal.validity = .valid ∧ t.records = s.records
          ∧ t.cal.fingerprint = crc32 (s.retention.readBytes 1 409))
      ∧ (calRegionGood (s.retention.readBytes 0 414) = false →
          t.cal.active = defaultCalSet ∧ t.cal.validity = .invalid ∧ t.cal.fingerprint = crc32 defaultCalSet.image
          ∧ ∀ a, (t.record a).state = .unreferenced ∧ (t.record a).lossCause = .calibrationInvalid
              ∧ (t.record a).epoch = (s.record a).epoch ∧ (t.record a).turn = (s.record a).turn))
  ∧ (∀ s : State, s.acting = true → s.cont.phase = .startup → s.recipes.loaded = false →
    ∃ t : State, exec .recipeStartUpLoad s = .next t
      ∧ t.recipes.staging = t.recipes.active ∧ t.recipes.write = .none ∧ t.recipes.loaded = true
      ∧ t.retention = s.retention ∧ t.records = s.records ∧ t.cal.active = s.cal.active
      ∧ (∀ rs, recipeRegionGood (s.retention.readBytes 414 1941) = true →
          recipesOfBytes 16 (s.retention.readBytes 415 1936) = some rs →
          t.recipes.active = rs ∧ t.recipes.validity = .valid)
      ∧ (recipeRegionGood (s.retention.readBytes 414 1941) = false →
          t.recipes.active = List.replicate 16 [] ∧ t.recipes.validity = .invalid))

/-- STARTUP_COMPLETE: the verdicts and the source slot are those of R158 and R159, the phase leaves STARTUP, and with an
INVALID calibration every recovery record is NOT_ATTEMPTED and the phase is RUNNING, or HOLDUP while the PFW level is
ASSERTED (R157, R173). The newest slot is the source slot, or slot N of R159 where there is none. Where no capture is in flight and neither
a capture nor a decision follows in the same event, the directory shows both slots as read, and MOVING_SINCE_CAPTURE is set where the newest slot carries a mark, and
in every record without one (R142; a slot state of another code shows as WRITING, log 21). -/
def Obligations.StartupExaminesTheSlots : Prop :=
  ∀ s : State, s.acting = true → s.cont.phase = .startup → s.cal.loaded = true → s.recipes.loaded = true →
    ∃ t : State, exec .startupComplete s = .next t
      ∧ t.planner.verdictA = some ((s.readSlot .a).verdict s.cal.fingerprint)
      ∧ t.planner.verdictB = some ((s.readSlot .b).verdict s.cal.fingerprint)
      ∧ t.planner.source = sourceSlot (s.readSlot .a) (s.readSlot .b)
          ((s.readSlot .a).verdict s.cal.fingerprint) ((s.readSlot .b).verdict s.cal.fingerprint)
      ∧ t.cont.phase ≠ .startup
      ∧ (s.cal.validity = .invalid →
          t.cont.phase = (if s.cont.pfw then .holdup else .running)
          ∧ ∀ a, (t.planner.outcomes.get a).outcome = .notAttempted
              ∧ (t.planner.outcomes.get a).reason = some .calibrationInvalid)
      ∧ (∀ sl, t.planner.source = some sl → t.cont.newest = some sl)
      ∧ (t.planner.source = none → s.newestRead t.cont.newest)
      ∧ (s.cont.capture = none → s.cont.pfw = false → s.cont.park ≠ .ready →
          (s.cal.validity = .invalid ∨ ∀ a, (s.sensor a).readStatus ≠ .tracking) →
          (∀ sl, (t.cont.slot sl).shows (s.readSlot sl))
          ∧ (∀ sl, t.cont.newest = some sl → ∀ a, (t.record a).movingSinceCapture = (s.readSlot sl).marks.get a)
          ∧ (t.cont.newest = none → ∀ a, (t.record a).movingSinceCapture = true))

/-- The recovery decision of an axis takes the first case of R164 that applies: SOURCE_UNRESOLVED; a snapshot path that does not apply
names the first condition of R165 that fails; a candidate within the window of R139 and the turn range is RESTORED, or with a coarse
sensor that it does not fit FAILED with CONFLICT (R166); a path that does not apply or falls through goes to the coarse path of R167
where there is a coarse sensor, and is FAILED with WINDOW_EXCEEDED or NOT_RESTORABLE where there is none (R168). -/
def Obligations.RecoveryTakesTheFirstCaseThatApplies : Prop :=
  ∀ (s : State) (a : Axis),
    let d := s.decision a
    d.source = s.planner.source
    ∧ (s.sourceFramed a = false → d.outcome = .failed ∧ d.reason = some .sourceUnresolved ∧ d.path = none ∧ d.delta = none
        ∧ d.window = none ∧ d.turn = none)
    ∧ (∀ p, s.sourceFramed a = true → s.pathFails a p →
        d.path = some p ∧ d.delta = none ∧ d.window = none ∧ s.coarseOutcome a d
        ∧ ((s.calOf a).coarsePresent = false → d.outcome = .failed ∧ d.reason = some .notRestorable ∧ d.turn = none))
    ∧ (∀ src w first, s.sourceFramed a = true → s.planner.entries = some src →
        restorable (src.entries.get a).state = true → src.marks.get a = false → s.planner.disturbed.get a = false →
        s.planner.firstFine.get a = some first → slipWindow (s.calOf a) (src.entries.get a) = some w →
        let e := src.entries.get a
        let delta := bringIntoTurn ((first : Int) - (e.fine : Int)) (s.cpt a)
        let turn := e.turn + ((e.fine : Int) + delta - (first : Int)).fdiv (s.cpt a : Int) + (s.record a).turn
        d.delta = some delta ∧ d.window = some w
        ∧ (w < delta.natAbs → d.path = some .windowExceeded ∧ s.coarseOutcome a d
          ∧ ((s.calOf a).coarsePresent = false → d.outcome = .failed ∧ d.reason = some .windowExceeded ∧ d.turn = none))
        ∧ (delta.natAbs ≤ w → turnInRange turn = false → d.path = some .turnOutOfRange ∧ s.coarseOutcome a d
          ∧ ((s.calOf a).coarsePresent = false → d.outcome = .failed ∧ d.reason = some .notRestorable ∧ d.turn = none))
        ∧ (delta.natAbs ≤ w → turnInRange turn = true → d.path = some .used
          ∧ ((s.calOf a).coarsePresent = false → d.outcome = .restored ∧ d.reason = some .withinWindow ∧ d.turn = some turn)
          ∧ (∀ coarse, s.coarseJoint a = some coarse →
            (s.fitsCoarse a coarse turn → d.outcome = .restored ∧ d.reason = some .withinWindow ∧ d.turn = some turn)
            ∧ (¬ s.fitsCoarse a coarse turn → d.outcome = .failed ∧ d.reason = some .conflict ∧ d.turn = none))))

/-- PFW_ASSERTED in RUNNING with no capture in flight: HOLDUP, every run ended POWER_FAIL, the wait queue empty, a slot that is not
BLOCKED emptied, and a POWER_FAIL capture in flight into the target of R149 (R116, R145). With a POWER_FAIL capture in flight that
capture goes on and one more is owed; any other capture is abandoned and a POWER_FAIL capture begins with a fresh freeze, into the same
slot with the same sequence, the axes outdated by earlier commands of the same µs pending (R145, R148, R150; that these alone are the events
taken together with the freeze is the model's reading, log 39); in STARTUP, and where the level is ASSERTED already, no capture is taken. PFW_DEASSERTED:
HOLDUP becomes RUNNING where no capture is in flight and stays HOLDUP where one is; every other phase is kept (R151). -/
def Obligations.PowerFailWarningEndsRunsAndRidesThrough : Prop :=
  (∀ s : State, s.acting = true → s.cont.pfw = false → s.cont.phase = .running → s.cont.capture = none → s.channelOk →
    ∃ t : State, exec .pfwAsserted s = .next t
      ∧ t.cont.pfw = true ∧ t.cont.phase = .holdup
      ∧ (∀ a, t.run a = none) ∧ (∀ a r, s.run a = some r → t.ranTo a r .powerFail)
      ∧ t.channel.queue = [] ∧ (s.channel.slot ≠ .blocked → t.channel.slot = .empty)
      ∧ (s.channel.slot = .blocked → t.channel.slot = .blocked)
      ∧ ∃ cap, t.cont.capture = some cap ∧ cap.buffer.reason = .powerFail ∧ cap.target = s.cont.captureTarget.1
          ∧ cap.buffer.sequence = s.cont.captureTarget.2)
  ∧ (∀ s : State, s.acting = true → ∃ t : State, exec .pfwAsserted s = .next t
    ∧ t.cont.pfw = true
    ∧ (s.cont.pfw = true ∨ s.cont.phase = .startup →
        t.cont.phase = s.cont.phase ∧ t.runs = s.runs ∧ t.cont.capture = s.cont.capture ∧ t.cont.owed = s.cont.owed)
    ∧ (∀ cap, s.cont.pfw = false → s.cont.phase ≠ .startup → s.cont.capture = some cap → cap.buffer.reason = .powerFail →
        t.cont.capture = some cap ∧ t.cont.owed = true)
    ∧ (∀ cap, s.cont.pfw = false → s.cont.phase ≠ .startup → s.cont.capture = some cap → cap.buffer.reason ≠ .powerFail →
        ∃ new, t.cont.capture = some new ∧ new.buffer.reason = .powerFail ∧ new.written = 0
          ∧ new.target = s.cont.captureTarget.1 ∧ new.buffer.sequence = s.cont.captureTarget.2
          ∧ t.cont.owed = s.cont.owed
          ∧ ∀ a, (s.record a).state ≠ .restoring →
              new.buffer.entries.get a = (t.record a).entry ∧ t.cont.pendingMarks.get a = s.outdatedNow.get a))
  ∧ (∀ s : State, s.acting = true → ∃ t : State, exec .pfwDeasserted s = .next t
    ∧ t.cont.pfw = false
    ∧ (s.cont.phase = .holdup → s.cont.capture = none → t.cont.phase = .running)
    ∧ (s.cont.phase = .holdup → s.cont.capture ≠ none → t.cont.phase = .holdup)
    ∧ (s.cont.phase ≠ .holdup → t.cont.phase = s.cont.phase)
    ∧ t.records = s.records ∧ t.runs = s.runs ∧ t.channel = s.channel ∧ t.retention = s.retention)

/-- RETENTION_BYTE_WRITTEN: the byte in progress stands in retention memory and no other byte changes; with no byte in progress
nothing changes (R143; the idle link is the model's, log 3). The last byte of a capture commits it: the target becomes the newest
slot, COMMITTED, with the sequence of the capture and the pending marks, and MOVING_SINCE_CAPTURE follows the pending marks. Where none
is owed no capture is in flight, and HOLDUP ends with the level DEASSERTED; an owed one begins into the other slot where the level is
ASSERTED, and lapses where it is not (R145, R149, R151; the park state is taken as not READY). That it begins into the other slot in
RESTORING too, where R172 names the slot that is not the source slot, is the model's reading, log 44. -/
def Obligations.CompletedBytesAreWrittenAndTheLastCommits : Prop :=
  (∀ s : State, s.acting = true → s.memoryCanonical →
    (∀ x, s.link = some x → ∃ t : State, exec .retentionByteWritten s = .next t
      ∧ t.byteAt x.addr.val = x.value ∧ (∀ n, n ≠ x.addr.val → t.byteAt n = s.byteAt n))
    ∧ (s.link = none → exec .retentionByteWritten s = .next s))
  ∧ (∀ (s : State) (x : LinkByte) (cap : Capture), s.acting = true → s.link = some x → x.owner = .capture →
    s.cont.capture = some cap → cap.written + 1 = captureLength → s.cont.park ≠ .ready →
    ∃ t : State, exec .retentionByteWritten s = .next t
      ∧ t.cont.newest = some cap.target ∧ t.cont.owed = false
      ∧ (t.cont.slot cap.target).state = .committed ∧ (t.cont.slot cap.target).sequence = cap.buffer.sequence
      ∧ (t.cont.slot cap.target).marks = s.cont.pendingMarks
      ∧ (∀ a, (t.record a).movingSinceCapture = s.cont.pendingMarks.get a ∧ (t.record a).core = (s.record a).core)
      ∧ (s.cont.owed = false ∨ s.cont.pfw = false → t.cont.capture = none
          ∧ t.cont.slot cap.target.other = s.cont.slot cap.target.other ∧ (∀ a, t.cont.pendingMarks.get a = false)
          ∧ t.cont.phase = (if s.cont.phase = .holdup ∧ s.cont.pfw = false then .running else s.cont.phase))
      ∧ (s.cont.owed = true → s.cont.pfw = true → t.cont.phase = s.cont.phase
          ∧ ∃ new, t.cont.capture = some new ∧ new.buffer.reason = .powerFail ∧ new.written = 0
            ∧ new.target = cap.target.other ∧ new.buffer.sequence = cap.buffer.sequence + 1))

/-! ### Sensor reads and samples -/

/-- READ_EVENT, a good read in TRACKING within the limit of R33 that keeps the turn in its range: the fine becomes that of
the read, the motor count advances by Δ, and the frame stands (R2, R33). Where it advances, the positions of the axis and of those it is the
coupling source of are evaluated: ARITH_OVERFLOW is set where one overflows and otherwise stands as it did (R4, R5). A good read in STARTING or LOST starts tracking with the turn
and the frame kept, a fresh rest anchor and AT_REST as it was; for a RESTORING axis it gives the first-read fine, or disturbs the axis
where there is one (R32, R161). The axis is not one that recovery may decide in the same event. -/
def Obligations.GoodReadsAdvanceTheCountOrStartTracking : Prop :=
  ∀ (s : State) (a : Axis) (began : Micros) (frame : List Bool) (fine : Nat),
    s.acting = true → s.pollingSince ≠ none → s.pollDiscarded a began = false →
    ¬ (s.cont.phase = .restoring ∧ s.planner.worklist.head? = some a) → unpack (s.calOf a).profile frame = some fine →
    let r := s.record a
    let delta := bringIntoTurn ((fine : Int) - (r.fine : Int)) (s.cpt a)
    let turn := if (s.cpt a : Int) ≤ (r.fine : Int) + delta then r.turn + 1
      else if (r.fine : Int) + delta < 0 then r.turn - 1 else r.turn
    ((s.sensor a).readStatus = .tracking →
      delta.natAbs * 8 ≤ ((s.sensor a).failedReads + 1) * s.cpt a → -32767 ≤ turn ∧ turn ≤ 32767 →
      ∃ t : State, exec (.readEvent a began frame) s = .next t
        ∧ (t.record a).fine = fine ∧ t.count a = s.count a + delta ∧ (t.record a).frame = r.frame
        ∧ (t.sensor a).failedReads = 0 ∧ (t.sensor a).readStatus = .tracking
        ∧ (delta ≠ 0 → ∀ b, b = a ∨ (s.calOf b).couplingSource = some a →
            ((t.record b).sticky.arithOverflow = true ↔ (s.record b).sticky.arithOverflow = true ∨ t.overflows b))
        ∧ (∀ b, b ≠ a → (s.calOf b).couplingSource ≠ some a → (t.record b).sticky = (s.record b).sticky)
        ∧ (∀ b, b ≠ a → (t.record b).core = (s.record b).core) ∧ t.authority = s.authority)
    ∧ ((s.sensor a).readStatus ≠ .tracking →
      ∃ t : State, exec (.readEvent a began frame) s = .next t
        ∧ (t.record a).fine = fine ∧ (t.record a).turn = r.turn ∧ (t.record a).frame = r.frame
        ∧ t.sensor a = { s.sensor a with
            readStatus := .tracking, failedReads := 0, restAnchor := some (motorCount r.turn fine (s.cpt a))
            restStart := some s.now }
        ∧ (t.record a).atRest = r.atRest
        ∧ (r.state = .restoring → t.planner.firstFine.get a = some ((s.planner.firstFine.get a).getD fine)
            ∧ t.planner.disturbed.get a = (s.planner.disturbed.get a || (s.planner.firstFine.get a).isSome))
        ∧ (r.state ≠ .restoring → t.planner = s.planner)
        ∧ (∀ b, b ≠ a → (t.record b).core = (s.record b).core) ∧ t.authority = s.authority ∧ t.runs = s.runs)

/-- READ_EVENT in TRACKING, an advance of Δ within the limit of R33. A count congruent to R beyond the old count and up to the new one, in
the direction of the index watch, is a crossing: the watch goes OFF, and it becomes the latch of a run in a SEEK_INDEX, which goes from
ORDERED or MOVING to STOPPING with STOP posted for its order, and from another phase stands otherwise, with the channel; where there
is no such run the runs and the channel stand, and without a crossing the watch too (R37, R90, R109, R123). The anchor is taken where
there is none or the count has left rest_band, with AT_REST clear after it was left; AT_REST is set 20 ms after the rest start (R38). The
parked condition, the park state and the classification timer follow AT_REST (R41, R130, R147). -/
def Obligations.AdvancesFindIndexCrossingsAndRest : Prop :=
  ∀ (s : State) (a : Axis) (began : Micros) (frame : List Bool) (fine : Nat),
    s.acting = true → s.pollingSince ≠ none → s.pollDiscarded a began = false →
    ¬ (s.cont.phase = .restoring ∧ s.planner.worklist.head? = some a) → unpack (s.calOf a).profile frame = some fine →
    (s.sensor a).readStatus = .tracking → (s.calOf a).refCount < s.cpt a →
    let r := s.record a
    let x := s.sensor a
    let old := s.count a
    let delta := bringIntoTurn ((fine : Int) - (r.fine : Int)) (s.cpt a)
    let turn := if (s.cpt a : Int) ≤ (r.fine : Int) + delta then r.turn + 1
      else if (r.fine : Int) + delta < 0 then r.turn - 1 else r.turn
    let crosses := fun (c : Int) => c.emod (s.cpt a : Int) = ((s.calOf a).refCount : Int)
      ∧ ((x.indexWatch = .positive ∧ old < c ∧ c ≤ old + delta) ∨ (x.indexWatch = .negative ∧ old + delta ≤ c ∧ c < old))
    delta.natAbs * 8 ≤ (x.failedReads + 1) * s.cpt a → delta.natAbs < s.cpt a → -32767 ≤ turn ∧ turn ≤ 32767 →
    ∃ t : State, exec (.readEvent a began frame) s = .next t
      ∧ (∀ c, crosses c → (t.sensor a).indexWatch = .off
        ∧ (∀ run cond d v l w, s.run a = some run → s.stepOf run = some ⟨cond, .seekIndex d v l w⟩ →
          ((run.phase = .ordered ∨ run.phase = .moving) →
            t.run a = some { run with latch := some c, phase := .stopping, pendingResult := none }
            ∧ ∀ o, s.hasLiveOrder a o → s.postedStop t a { run with latch := some c } o .stopping none s.channel.queue)
          ∧ (run.phase ≠ .ordered → run.phase ≠ .moving →
            t.run a = some { run with latch := some c } ∧ t.channel = s.channel))
        ∧ ((∀ run cond d v l w, s.run a = some run → s.stepOf run ≠ some ⟨cond, .seekIndex d v l w⟩) →
          t.runs = s.runs ∧ t.channel = s.channel))
      ∧ ((∀ c, ¬ crosses c) → (t.sensor a).indexWatch = x.indexWatch ∧ t.runs = s.runs ∧ t.channel = s.channel)
      ∧ (x.restAnchor = none → (t.sensor a).restAnchor = some (old + delta) ∧ (t.sensor a).restStart = some s.now
          ∧ (t.record a).atRest = r.atRest)
      ∧ (∀ anchor start, x.restAnchor = some anchor → x.restStart = some start →
        ((old + delta - anchor).natAbs ≤ (s.calOf a).restBand →
          (t.sensor a).restAnchor = some anchor ∧ (t.sensor a).restStart = some start
          ∧ (20000 ≤ s.now - start → (t.record a).atRest = true)
          ∧ (s.now - start < 20000 → (t.record a).atRest = r.atRest))
        ∧ ((s.calOf a).restBand < (old + delta - anchor).natAbs →
          (t.sensor a).restAnchor = some (old + delta) ∧ (t.sensor a).restStart = some s.now ∧ (t.record a).atRest = false))
      ∧ (t.record a).brakeApplied = r.brakeApplied ∧ s.parkFollowed t a ∧ s.classTimerFollowed t a

/-- READ_EVENT, a good read in TRACKING beyond the limit of R33 is TRACK_LOST with the turn kept; one within it that would take the turn
out of its range is TURN_RANGE with the turn 0. In both the fine is that of the read, the watch is OFF, AT_REST is clear with a fresh
anchor, and the loss takes the frame of a framed axis, the run of a HOMING one, and disturbs a RESTORING one (R16, R21, R34, R35, R114,
R161); an order of that run in the slot is detached and STOPPING (R114); the parked condition and the park state follow AT_REST (R41, R147). -/
def Obligations.JumpsAndTurnOverflowsLoseTheTurn : Prop :=
  ∀ (s : State) (a : Axis) (began : Micros) (frame : List Bool) (fine : Nat),
    s.acting = true → s.pollingSince ≠ none → s.pollDiscarded a began = false →
    ¬ (s.cont.phase = .restoring ∧ s.planner.worklist.head? = some a) → unpack (s.calOf a).profile frame = some fine →
    (s.sensor a).readStatus = .tracking →
    let r := s.record a
    let delta := bringIntoTurn ((fine : Int) - (r.fine : Int)) (s.cpt a)
    let turn := if (s.cpt a : Int) ≤ (r.fine : Int) + delta then r.turn + 1
      else if (r.fine : Int) + delta < 0 then r.turn - 1 else r.turn
    let jumps := ((s.sensor a).failedReads + 1) * s.cpt a < delta.natAbs * 8
    jumps ∨ ¬ (-32767 ≤ turn ∧ turn ≤ 32767) →
    ∃ t : State, exec (.readEvent a began frame) s = .next t
      ∧ (jumps → (t.record a).turn = r.turn ∧ s.tookLoss t a .trackLost)
      ∧ (¬ jumps → (t.record a).turn = 0 ∧ s.tookLoss t a .turnRange)
      ∧ (t.record a).fine = fine ∧ (t.record a).atRest = false
      ∧ (t.sensor a).readStatus = .tracking ∧ (t.sensor a).failedReads = 0 ∧ (t.sensor a).indexWatch = .off
      ∧ (t.sensor a).restAnchor = some (t.count a) ∧ (t.sensor a).restStart = some s.now ∧ s.parkFollowed t a
      ∧ (∀ o, r.state = .homing → s.channel.order = some o → o.axis = a → s.channel.detached = false →
          s.channel.slot ≠ .empty → s.channel.slot ≠ .blocked → t.channel.slot = .stopping ∧ t.channel.detached = true)

/-- READ_EVENT, a failed read: FRAME_ERROR is set; the first two in a row are counted and change no turn, fine or frame; the
third makes the read status LOST and is SENSOR_LOST, which takes the frame of a framed axis, the run of a HOMING one, and disturbs a
RESTORING one; in LOST nothing more happens, to the sensor, the frame, a run or the channel (R16, R21, R31, R114, R161). The parked condition and the park state follow AT_REST (R41,
R147). -/
def Obligations.FailedReadsAreCountedAndTheThirdLosesTheSensor : Prop :=
  ∀ (s : State) (a : Axis) (began : Micros) (frame : List Bool),
    s.acting = true → s.pollingSince ≠ none → s.pollDiscarded a began = false →
    ¬ (s.cont.phase = .restoring ∧ s.planner.worklist.head? = some a) → unpack (s.calOf a).profile frame = none →
    let r := s.record a
    let x := s.sensor a
    ∃ t : State, exec (.readEvent a began frame) s = .next t
      ∧ (t.record a).sticky.frameError = true ∧ (t.record a).turn = r.turn ∧ (t.record a).fine = r.fine
      ∧ (x.readStatus ≠ .lost → x.failedReads < 2 →
          (t.sensor a).failedReads = x.failedReads + 1 ∧ (t.sensor a).readStatus = x.readStatus ∧ (t.record a).frame = r.frame)
      ∧ (x.readStatus ≠ .lost → x.failedReads = 2 →
          (t.sensor a).failedReads = 3 ∧ (t.sensor a).readStatus = .lost ∧ (t.sensor a).indexWatch = .off
          ∧ (t.sensor a).restAnchor = none ∧ (t.record a).atRest = false ∧ s.tookLoss t a .sensorLost ∧ s.parkFollowed t a)
      ∧ (x.readStatus = .lost → t.sensor a = x ∧ (t.record a).frame = r.frame ∧ t.runs = s.runs ∧ t.channel = s.channel)

/-- HOME_SWITCH_SAMPLE: the first sample sets the level directly (R39; the level before it is the model's, log 10); a sample equal to the
level clears the candidate; one that differs starts the candidate, and sets the level once the candidate is switch_filter old (R39). A change to the level that the step
of a run in ORDERED or MOVING seeks posts STOP for its order, and the run is STOPPING; any other sample leaves such a run and the channel
(R89, R109, R123).
BRAKE_SAMPLE: two consecutive samples that agree and differ from the level, or find it absent, set the level and BRAKE_APPLIED; any other
sample leaves both; no frame, turn, run, order or permit changes (R40). The twelfth flag set begins the park, which starts the park timer with
park_time, a flag cleared ends it, and the classification timer starts when the brake is released on an axis at rest without a live order and
stops when it is applied (R41, R130, R147). -/
def Obligations.SwitchAndBrakeFollowTheirSamples : Prop :=
  (∀ (s : State) (a : Axis) (asserted : Bool), s.acting = true →
    let x := s.sensor a
    let level : SwitchLevel := if asserted then .active else .inactive
    ∃ t : State, exec (.homeSwitchSample a asserted) s = .next t
      ∧ (t.sensor a).switchSampled = true
      ∧ (x.switchSampled = false ∨ x.switchLevel = level →
          (t.sensor a).switchLevel = level ∧ (t.sensor a).switchCandidate = none)
      ∧ (∀ since, x.switchSampled = true → x.switchLevel ≠ level →
          (since = match x.switchCandidate with
            | some c => c.2
            | none => s.now) →
          ((s.calOf a).switchFilter * 1000 ≤ s.now - since →
            (t.sensor a).switchLevel = level ∧ (t.sensor a).switchCandidate = none)
          ∧ (s.now - since < (s.calOf a).switchFilter * 1000 →
            (t.sensor a).switchLevel = x.switchLevel ∧ (t.sensor a).switchCandidate = some (level, since)))
      ∧ (∀ r, s.run a = some r → (r.phase = .ordered ∨ r.phase = .moving) →
          (∀ o, s.switchChanges a level → s.seeks r = some level → s.hasLiveOrder a o → s.postedStop t a r o .stopping none s.channel.queue)
          ∧ (¬ s.switchChanges a level ∨ s.seeks r ≠ some level → t.runs = s.runs ∧ t.channel = s.channel)))
  ∧ (∀ (s : State) (a : Axis) (asserted : Bool), s.acting = true →
    let x := s.sensor a
    let level : BrakeLevel := if asserted then .applied else .released
    ∃ t : State, exec (.brakeSample a asserted) s = .next t
      ∧ (t.sensor a).previousBrake = some level
      ∧ (x.previousBrake = some level → x.brakeLevel ≠ some level →
          (t.sensor a).brakeLevel = some level ∧ (t.record a).brakeApplied = asserted)
      ∧ (x.previousBrake ≠ some level ∨ x.brakeLevel = some level →
          (t.sensor a).brakeLevel = x.brakeLevel ∧ (t.record a).brakeApplied = (s.record a).brakeApplied)
      ∧ (∀ b, t.record b = { s.record b with brakeApplied := (t.record b).brakeApplied })
      ∧ (∀ b, b ≠ a → t.sensor b = s.sensor b ∧ t.record b = s.record b ∧ t.load b = s.load b)
      ∧ s.parkFollowed t a ∧ s.classTimerFollowed t a
      ∧ t.load a = { s.load a with classTimer := (t.load a).classTimer }
      ∧ t.runs = s.runs ∧ t.channel = s.channel ∧ t.authority = s.authority ∧ t.planner = s.planner)

/-- COARSE_SAMPLE: the window holds the 16 most recent codes, and the average is the nearest code to their mean, ties to the even
one, present once the window is full (R42). CURRENT_SAMPLE: the window holds the 32 most recent samples; where the watch is not
WATCHING nothing else changes. Where it is, the exceed count is what the test against the smallest magnitude of 2 or more in the contact window
leaves, and then the magnitude joins that window of 32; where the count reaches the order's contact count, CONTACT_SEEN is set and the watch
is OFF, and a run in MOVING has STOP posted for its order and is ENDING with CONTACT (R109, R123, R129, R132, R136, R137); no other sample
touches a record, a run or the channel. -/
def Obligations.CoarseAndCurrentWindowsHoldTheLatestSamples : Prop :=
  (∀ (s : State) (a : Axis) (code : BitVec 12), s.acting = true → (s.sensor a).coarseWindow.length ≤ 16 →
    ∃ t : State, exec (.coarseSample a code) s = .next t
      ∧ (t.sensor a).coarseWindow = ((s.sensor a).coarseWindow ++ [code.toNat]).drop ((s.sensor a).coarseWindow.length - 15)
      ∧ (t.sensor a).coarseWindow.length ≤ 16
      ∧ ((t.sensor a).coarseWindow.length < 16 → (t.sensor a).coarseAverage = none)
      ∧ ((t.sensor a).coarseWindow.length = 16 →
          (t.sensor a).coarseAverage = some (roundHalfEven ((t.sensor a).coarseWindow.sum : Int) 16).toNat))
  ∧ (∀ (s : State) (a : Axis) (v : BitVec 16), s.acting = true →
    let l := s.load a
    let m := v.toInt.natAbs
    let l' : LoadState := { l with window := (l.window ++ [v]).drop (l.window.length - 31) }
    ∃ t : State, exec (.currentSample a v) s = .next t
      ∧ (t.load a).window = l'.window ∧ (t.load a).contactValues = l.contactValues
      ∧ (l.watch ≠ .watching → t.load a = l' ∧ t.records = s.records ∧ t.runs = s.runs ∧ t.channel = s.channel)
      ∧ (∀ cv n, l.watch = .watching → l.contactValues = some cv → l.testLeaves cv m n →
          (t.load a).exceed = n
          ∧ (t.load a).contactWindow = (l.contactWindow ++ [m]).drop (l.contactWindow.length - 31)
          ∧ (0 < n ∧ cv.count ≤ n → (t.record a).sticky.contactSeen = true ∧ (t.load a).watch = .off
            ∧ (∀ r o, s.run a = some r → r.phase = .moving → s.hasLiveOrder a o →
                s.postedStop t a r o .ending (some .contact) s.channel.queue)
            ∧ ((∀ r, s.run a = some r → r.phase ≠ .moving) → t.runs = s.runs ∧ t.channel = s.channel))
          ∧ (n = 0 ∨ n < cv.count → (t.load a).watch = .watching ∧ t.records = s.records ∧ t.runs = s.runs
            ∧ t.channel = s.channel)))

/-! ### Expiries -/

/-- CROSS_CHECK_EXPIRY: the timer starts again with 64 ms, and every framed axis at rest with a position and a coarse joint value is
checked. A difference beyond T sets COARSE_WARN, and a PROVISIONAL or REFERENCED axis counts it and becomes SUSPECT with
COARSE_DIVERGED at the fourth, its epoch kept; an agreement makes the count of such an axis 0; a SUSPECT axis keeps its state and its
count; no other axis and no run changes (R11, R18, R44, R45). The positions are current, as every step keeps them. -/
def Obligations.CrossCheckCountsDisagreements : Prop :=
  ∀ s : State, s.acting = true → s.positionsCurrent → ∃ t : State, exec .crossCheckExpiry s = .next t
    ∧ t.crossCheckTimer = 64000 ∧ t.runs = s.runs
    ∧ (∀ a,
      let r := s.record a
      let warned := { r.core with sticky := { r.core.sticky with coarseWarn := true } }
      ((r.state.framed = false ∨ r.atRest = false ∨ r.position = none ∨ s.coarseJoint a = none) → (t.record a).core = r.core)
      ∧ (∀ k p, r.state.framed = true → r.atRest = true → r.position = some p → s.coarseJoint a = some k →
        ((s.calOf a).coarseTolerance < (p - k).natAbs →
          (r.state = .suspect → (t.record a).core = warned)
          ∧ (r.state ≠ .suspect → r.disagreements < 3 →
              (t.record a).core = { warned with disagreements := r.disagreements + 1 })
          ∧ (r.state ≠ .suspect → r.disagreements = 3 →
              (t.record a).core = { warned with disagreements := 4, state := .suspect, lossCause := .coarseDiverged }))
        ∧ ((p - k).natAbs ≤ (s.calOf a).coarseTolerance →
          (t.record a).core = if r.state = .suspect then r.core else { r.core with disagreements := 0 })))

/-- CLASSIFICATION_TIMER_EXPIRY with a full window: the class follows the sum of the 32 magnitudes against 32 times the thresholds,
and the timer starts again. LOAD_SAMPLE_TIMER_EXPIRY: the class follows the most recent magnitude against the thresholds, and the
timer stops; a run that is MOVING in a LOAD_CHECK has STOP posted, and is STOPPING for EMPTY and LOADED and ENDING with OVERLOAD for
OVERLOAD, and any other run stands; a step timer expiry taken after it changes nothing, since the first of the two decides the run's path
(R92, R109, R131, R133; how row 1 of R134 is read beside R109 is log 42). RAMP_IGNORE_EXPIRY: the watch goes from IGNORING to WATCHING (R135).
PARK_TIMER_EXPIRY: the park state goes from TIMING to READY with its timer stopped, and the park test is made: in RUNNING with no capture in
flight, the level DEASSERTED and some axis that differs from the newest slot, a PARK capture starts with its freeze of the records as they
stand and the axes outdated by earlier commands of the same µs pending, and otherwise none starts (R147 to R149; log 39). -/
def Obligations.LoadAndParkTimersExpire : Prop :=
  (∀ (s : State) (a : Axis), s.acting = true →
    let c := s.calOf a
    ((s.load a).classTimer ≠ none → (s.load a).window.length = 32 →
      let sum := ((s.load a).window.map fun v => v.toInt.natAbs).sum
      ∃ t : State, exec (.classificationTimerExpiry a) s = .next t
        ∧ (t.record a).loadClass = (if sum < 32 * c.emptyMax then .empty else if sum < 32 * c.loadedMax then .loaded else .overload)
        ∧ (t.load a).classTimer = some 32000 ∧ (t.record a).frame = (s.record a).frame ∧ t.runs = s.runs)
    ∧ (∀ v, (s.load a).sampleTimer ≠ none → (s.load a).window.getLast? = some v →
      ∃ t : State, exec (.loadSampleTimerExpiry a) s = .next t
        ∧ (t.record a).loadClass = (if v.toInt.natAbs < c.emptyMax then .empty
            else if v.toInt.natAbs < c.loadedMax then .loaded else .overload)
        ∧ (t.load a).sampleTimer = none ∧ (t.record a).frame = (s.record a).frame
        ∧ (∀ r, s.run a = some r →
            let checks := r.phase = .moving ∧ ∃ cond, s.stepOf r = some ⟨cond, .loadCheck⟩
            (∀ o, checks → s.hasLiveOrder a o →
              ((t.record a).loadClass = .overload → s.postedStop t a r o .ending (some .overload) s.channel.queue)
              ∧ ((t.record a).loadClass ≠ .overload → s.postedStop t a r o .stopping none s.channel.queue)
              ∧ exec .stepTimerExpiry t = .next t)
            ∧ (¬ checks → t.runs = s.runs ∧ t.channel = s.channel))))
  ∧ (∀ s : State, s.acting = true →
    (∀ a, (s.load a).watch = .ignoring → ∃ t : State, exec (.rampIgnoreExpiry a) s = .next t
      ∧ (t.load a).watch = .watching ∧ t.records = s.records ∧ t.runs = s.runs ∧ t.channel = s.channel)
    ∧ (s.cont.park = .timing → ∃ t : State, exec .parkTimerExpiry s = .next t
      ∧ t.cont.park = .ready ∧ t.cont.parkTimer = none ∧ t.records = s.records ∧ t.runs = s.runs ∧ t.channel = s.channel
      ∧ (let starts := s.cont.phase = .running ∧ s.cont.capture = none ∧ s.cont.pfw = false ∧ ∃ a, s.differsFromNewest a
         (starts → ∃ cap, t.cont.capture = some cap ∧ cap.buffer.reason = .park ∧ cap.written = 0
            ∧ cap.buffer.fingerprint = s.cal.fingerprint
            ∧ (∀ sl, s.cont.newest = some sl →
                cap.target = sl.other ∧ cap.buffer.sequence = (s.cont.slot sl).sequence + 1)
            ∧ (s.cont.newest = none → cap.target = .a ∧ cap.buffer.sequence = 1)
            ∧ (∀ a, (s.record a).state ≠ .restoring →
                cap.buffer.entries.get a = (s.record a).entry ∧ t.cont.pendingMarks.get a = s.outdatedNow.get a))
         ∧ (¬ starts → t.cont.capture = s.cont.capture))))

/-- SETTLE_TIMER_EXPIRY of a run: UNSETTLED with AT_REST clear; with AT_REST set at the last position the run ends HOMED where
it is marked, which makes its axis PROVISIONAL and HOMED at a new epoch, and NOT_MARKED where it is not (R16, R91, R115). -/
def Obligations.SettleExpiryPassesOrEndsTheRun : Prop :=
  ∀ (s : State) (a : Axis) (r : Run), s.acting = true → s.settleTimers.get a ≠ none → s.run a = some r →
    ∃ t : State, exec (.settleTimerExpiry a) s = .next t
      ∧ ((s.record a).atRest = false → t.ranTo a r .unsettled
          ∧ (t.record a).frame = (.unreferenced, .none, .homingFailed, (s.record a).epoch))
      ∧ ((s.record a).atRest = true → r.position + 1 = (s.recipeOf r).length → r.marked = true → t.ranTo a r .homed
          ∧ (t.record a).frame = (.provisional, .homed, (s.record a).lossCause, (s.record a).epoch + 1))
      ∧ ((s.record a).atRest = true → r.position + 1 = (s.recipeOf r).length → r.marked = false → t.ranTo a r .notMarked)

/-- STEP_TIMER_EXPIRY of a run whose order is POSTED or ACTIVE: STOP is posted, the stop timer runs, and the run is ENDING with
MOVE_TIMEOUT (R109, R123). ACCEPT_TIMER_EXPIRY in POSTED: the run ends MOVE_TIMEOUT; with no run waiting the slot is EMPTY with its
timers stopped (R111, R122). STOP_TIMER_EXPIRY in STOPPING: the slot is BLOCKED with its order detached, CHANNEL_BLOCKED reaches the
Motion and Safety Ports with the axis and the order id, and the order's run ends with its pending result, or MOVE_TIMEOUT where it is
not ENDING (R111, R125, R127, R188; an event of STARTUP would wait for the first delivery after it, log 25). -/
def Obligations.ChannelTimeoutsStopEmptyOrBlockTheSlot : Prop :=
  (∀ (s : State) (o : Order) (r : Run), s.acting = true → s.channel.stepTimer ≠ none → s.channel.order = some o →
    s.channel.detached = false → (s.channel.slot = .posted ∨ s.channel.slot = .active) → s.run o.axis = some r →
    (r.phase = .ordered ∨ r.phase = .moving) →
    ∃ t : State, exec .stepTimerExpiry s = .next t
      ∧ s.postedStop t o.axis r o .ending (some .moveTimeout) s.channel.queue
      ∧ (∀ b, b ≠ o.axis → t.run b = s.run b) ∧ t.records = s.records ∧ t.authority = s.authority)
  ∧ (∀ (s : State) (o : Order) (r : Run), s.acting = true → s.channel.acceptTimer ≠ none → s.channel.slot = .posted →
    s.channel.order = some o → s.channel.detached = false → s.run o.axis = some r →
    ∃ t : State, exec .acceptTimerExpiry s = .next t ∧ t.ranTo o.axis r .moveTimeout ∧ t.noPermit o.axis
      ∧ (t.record o.axis).frame = (.unreferenced, .none, .homingFailed, (s.record o.axis).epoch)
      ∧ (s.channel.queue = [] → t.channel = { s.channel with
          slot := .empty, order := none, acceptTimer := none, stepTimer := none, stopTimer := none }))
  ∧ (∀ (s : State) (o : Order), s.acting = true → s.channel.stopTimer ≠ none → s.channel.slot = .stopping →
    s.channel.order = some o → s.portsOk →
    ∃ t : State, exec .stopTimerExpiry s = .next t
      ∧ t.channel.slot = .blocked ∧ t.channel.order = some o ∧ t.channel.detached = true ∧ t.channel.stopTimer = none
      ∧ (∀ p, p ≠ .cell → s.cont.phase ≠ .startup → ∃ r, (s.port p).received (t.port p) .channelBlocked r
          ∧ r.blocked = some (o.axis, o.orderId))
      ∧ (∀ r res, s.channel.detached = false → s.run o.axis = some r → r.phase = .ending → r.pendingResult = some res →
          t.ranTo o.axis r res)
      ∧ (∀ r, s.channel.detached = false → s.run o.axis = some r → r.phase ≠ .ending → t.ranTo o.axis r .moveTimeout)
      ∧ (s.channel.detached = true → t.runs = s.runs))

/-- The events that decide a head of the worklist (R163, R169, R170, R171): the READ_EVENT from which its tracking starts, the
COARSE_SAMPLE that fills its window, and SENSOR_WAIT_TIMER_EXPIRY, which FAILS a head that is not TRACKING with NO_SENSOR. The decision is
that of R164 on the state with that read or average, the record takes it as R14 says, and the axis is marked; with the worklist empty
recovery has ended (R151). A head without a coarse sensor that is TRACKING at STARTUP_COMPLETE is decided there; one that is not waits,
with the timer at 100 ms (R157, R162). The model's choice: a timer that has expired stays EXPIRED at the end of recovery (log 15); a PARK
capture that starts in the same event holds pending what earlier commands of the same µs outdated, and not this event (log 39); a mark whose
byte goes on the link at once still stands among the waiting marks (log 40); the mark is set in the newest slot, be it the source slot or
not (log 50). -/
def Obligations.EventsDecideTheHeadOfTheWorklist : Prop :=
  (∀ (s : State) (a : Axis) (rest : List Axis) (began : Micros) (frame : List Bool) (fine : Nat),
    s.acting = true → s.pollingSince ≠ none → s.pollDiscarded a began = false → s.cont.phase = .restoring →
    s.planner.worklist = a :: rest → a ∉ rest → (s.record a).state = .restoring →
    unpack (s.calOf a).profile frame = some fine → (s.sensor a).readStatus ≠ .tracking →
    ((s.calOf a).coarsePresent = true → (s.sensor a).coarseAverage ≠ none) →
    let first := s.planner.firstFine.get a
    let u : State := { s with
      records := s.records.set a { s.record a with fine := fine }
      planner := { s.planner with
        firstFine := s.planner.firstFine.set a (some (first.getD fine))
        disturbed := s.planner.disturbed.set a (s.planner.disturbed.get a || first.isSome) } }
    ∃ t : State, exec (.readEvent a began frame) s = .next t
      ∧ s.tookDecision t a rest (u.decision a) ∧ (t.record a).fine = fine)
  ∧ (∀ (s : State) (a : Axis) (rest : List Axis) (code : BitVec 12),
    s.acting = true → s.cont.phase = .restoring → s.planner.worklist = a :: rest → a ∉ rest →
    (s.sensor a).readStatus = .tracking → (s.sensor a).coarseWindow.length = 15 →
    let mean := (roundHalfEven (((s.sensor a).coarseWindow ++ [code.toNat]).sum : Int) 16).toNat
    ∃ t : State, exec (.coarseSample a code) s = .next t
      ∧ s.tookDecision t a rest ((s.setSensor a { s.sensor a with coarseAverage := some mean }).decision a))
  ∧ (∀ s : State, s.acting = true → s.planner.sensorWait.isRunning = true →
    ∃ t : State, exec .sensorWaitTimerExpiry s = .next t
      ∧ t.planner.sensorWait = .expired
      ∧ (∀ a rest, s.cont.phase = .restoring → s.planner.worklist = a :: rest → a ∉ rest →
          (s.sensor a).readStatus ≠ .tracking →
          s.tookDecision t a rest { outcome := .failed, reason := some .noSensor, path := none, delta := none, window := none
                                    turn := none, source := s.planner.source }))
  ∧ (∀ (s : State) (a : Axis) (rest : List Axis), s.acting = true → s.cont.phase = .startup → s.cal.loaded = true →
    s.recipes.loaded = true → s.cal.validity = .valid → worklistOf s.cal.active = a :: rest → a ∉ rest →
    let va := (s.readSlot .a).verdict s.cal.fingerprint
    let vb := (s.readSlot .b).verdict s.cal.fingerprint
    let src := sourceSlot (s.readSlot .a) (s.readSlot .b) va vb
    let entries := sourceEntriesOf src (s.readSlot .a) (s.readSlot .b)
    let u := { s with planner := { s.planner with source := src, entries := entries } }
    ∃ t : State, exec .startupComplete s = .next t
      ∧ ((s.sensor a).readStatus ≠ .tracking → t.cont.phase = .restoring ∧ t.planner.worklist = a :: rest
          ∧ t.planner.sensorWait = .running 100000 ∧ t.planner.outcomes = s.planner.outcomes
          ∧ ∀ b, (t.record b).core = (s.record b).core)
      ∧ ((s.sensor a).readStatus = .tracking → (s.calOf a).coarsePresent = false →
          t.planner.outcomes.get a = u.decision a
          ∧ AxisRecord.tookOutcome (s.record a) (t.record a) (entries.map fun x => x.entries.get a) (u.decision a)))

/-- RECOVERY_DONE reaches all three ports whatever they subscribe to, in one delivery with the other events of its command (R170, R173, R188,
R189). At STARTUP_COMPLETE with an INVALID calibration it finds the queues empty and makes one record in each (R190; that the events of
STARTUP make no record before it is the model's reading, log 25). At the expiry that decides the last head it is one record more, and the
only one where no earlier event of RESTORING made one. It holds the axis list of that moment, and on the Safety Port the pair of every
PROVISIONAL axis, with ACK_WANTED where there is one. -/
def Obligations.RecoveryDoneIsOneDeliveryToEachPort : Prop :=
  (∀ s : State, s.acting = true → s.portsOk → s.cont.phase = .startup → s.cal.loaded = true → s.recipes.loaded = true →
    s.cal.validity = .invalid →
    ∃ t : State, exec .startupComplete s = .next t
      ∧ ∀ p, ∃ r, (t.port p).queue = [r] ∧ r.causes.has .recoveryDone = true ∧ (t.port p).alert = true)
  ∧ (∀ (s : State) (a : Axis), s.acting = true → s.portsOk → s.planner.sensorWait.isRunning = true →
    s.cont.phase = .restoring → s.planner.worklist = [a] → (s.sensor a).readStatus ≠ .tracking →
    ∃ t : State, exec .sensorWaitTimerExpiry s = .next t
      ∧ (∀ p, ∃ r, (s.port p).received (t.port p) .recoveryDone r
          ∧ ((s.port p).queue = [] → (t.port p).queue = [r])
          ∧ (∀ b, (s.port p).axisMask.get b = true → r.axisList.get b = some (t.record b).view))
      ∧ (∀ r, (t.port .safety).queue.getLast? = some r → ∀ b, (t.record b).state = .provisional →
          r.causes.has .ackWanted = true ∧ r.ackWanted.get b = some (t.record b).epoch))

/-! ### Periods -/

/-- A period with fewer than 8 edges changes nothing; a fetch makes the held response absent and changes nothing else; an unknown
kind is refused UNKNOWN with an empty payload and changes nothing else; a frame error has no effect on any block: it is answered
FRAME_ERROR with an empty payload and the byte received at the tag's place, or 0 where the period ended before it, and the port's
count increases by 1, staying at 65535 (R174, R176, R177, R180). -/
def Obligations.PeriodsThatMakeNoRequestChangeOnlyThePort : Prop :=
  (∀ (s : State) (p : Port), s.acting = true →
    (∀ edges, exec (.shortPeriod p edges) s = .next s)
    ∧ exec (.fetch p) s = .next (s.setPort p { s.port p with held := none })
    ∧ (∀ kind tag payload, exec (.unknownKind p kind tag payload) s =
        .next (s.setPort p { s.port p with held := some { tag := tag, code := .unknown, payload := [] } })))
  ∧ (∀ (s : State) (p : Port) (received : List Byte), s.acting = true →
    exec (.frameError p received) s = .next (s.setPort p { s.port p with
      held := some { tag := received.getD 2 0, code := .frameError, payload := [] }
      frameErrors := if (s.port p).frameErrors < 65535 then (s.port p).frameErrors + 1 else 65535 }))

/-- A period is a frame error exactly where R177 says: a length of 1 or above 122, too few bytes, or a CRC-16 that differs. Decoding
the period that carries a well-formed request gives the request back: kind, tag and payload (R176, R193). -/
def Obligations.FramesDecodeAsTheyWereEncoded : Prop :=
  (∀ (p : Port) (edges : Nat) (len : Byte) (rest : List Byte), 8 ≤ edges → len ≠ 0 →
    (decodePeriod p edges (len :: rest) = .frameError p (len :: rest) ↔
      (len.toNat = 1 ∨ 122 < len.toNat ∨ rest.length + 1 < 1 + len.toNat + 2
        ∨ (crc16 (len :: rest.take len.toNat)).toNat ≠ natOfBytes ((rest.drop len.toNat).take 2))))
  ∧ (∀ (i : Instr) (p : Port) (bytes : List Byte), i.wf = true → encodePeriod i = some (p, bytes) →
    decodePeriod p (8 * bytes.length) bytes = i)

/-! ### Reads and reports -/

/-- The reads are accepted from every port in every phase, are answered DONE with the state as it stands, and change nothing
but the held response (R51, R96, R105, R121, R155, R168, R184, R185). READ_MOVE_ORDER is refused NOT_PERMITTED from the Safety
and Cell Ports; an axis, a set, a part, a recipe or a position outside its range, and a payload where none belongs, is RANGE (R180). -/
def Obligations.ReadsChangeOnlyTheHeldResponse : Prop :=
  ∀ (s : State) (p : Port) (tag : Byte), s.acting = true →
    exec (.readAxes p tag []) s = .next (s.answer p tag .done (s.records.toList.flatMap AxisRecord.bytes))
    ∧ (∀ a, exec (.readAxis p tag [byte (axisNumber a)]) s = .next (s.answer p tag .done (s.record a).bytes))
    ∧ (∀ a, exec (.readRun p tag [byte (axisNumber a)]) s = .next (s.answer p tag .done (s.runPayload a)))
    ∧ exec (.readRecovery p tag []) s = .next (s.answer p tag .done s.recoveryPayload)
    ∧ exec (.readSlots p tag []) s = .next (s.answer p tag .done s.slotsPayload)
    ∧ exec (.identify p tag []) s = .next (s.answer p tag .done (s.identifyPayload p))
    ∧ (∀ a, exec (.readCal p tag [0, byte (axisNumber a)]) s = .next (s.answer p tag .done (s.cal.payload .active (.axis a)))
        ∧ exec (.readCal p tag [1, byte (axisNumber a)]) s = .next (s.answer p tag .done (s.cal.payload .staging (.axis a))))
    ∧ exec (.readCal p tag [0, 0]) s = .next (s.answer p tag .done (s.cal.payload .active .device))
    ∧ exec (.readCal p tag [1, 0]) s = .next (s.answer p tag .done (s.cal.payload .staging .device))
    ∧ (∀ i pos : Byte, i.toNat ≤ 15 → pos.toNat ≤ 11 →
        exec (.readStep p tag [0, i, pos]) s = .next (s.answer p tag .done (s.recipes.payload .active i.toNat pos.toNat))
        ∧ exec (.readStep p tag [1, i, pos]) s = .next (s.answer p tag .done (s.recipes.payload .staging i.toNat pos.toNat)))
    ∧ exec (.readMoveOrder .motion tag []) s = .next (s.answer .motion tag .done s.channel.payload)
    ∧ (p ≠ .motion → exec (.readMoveOrder p tag []) s = .next (s.answer p tag .notPermitted []))
    ∧ (∀ (x : Byte) (xs : List Byte), exec (.readAxes p tag (x :: xs)) s = .next (s.answer p tag .range [])
        ∧ exec (.readRecovery p tag (x :: xs)) s = .next (s.answer p tag .range [])
        ∧ exec (.readSlots p tag (x :: xs)) s = .next (s.answer p tag .range [])
        ∧ exec (.identify p tag (x :: xs)) s = .next (s.answer p tag .range []))
    ∧ (∀ b : Byte, b.toNat = 0 ∨ 6 < b.toNat → exec (.readAxis p tag [b]) s = .next (s.answer p tag .range [])
        ∧ exec (.readRun p tag [b]) s = .next (s.answer p tag .range []))
    ∧ (∀ k b : Byte, 1 < k.toNat ∨ 6 < b.toNat → exec (.readCal p tag [k, b]) s = .next (s.answer p tag .range []))
    ∧ (∀ k i pos : Byte, 1 < k.toNat ∨ 15 < i.toNat ∨ 11 < pos.toNat →
        exec (.readStep p tag [k, i, pos]) s = .next (s.answer p tag .range []))

/-- READ_REPORT: the oldest record is removed and returned, those behind it keep their order, and the alert line falls with
the last; an empty queue is answered DONE with an empty payload and nothing changes (R190, R191). SUBSCRIBE sets the port's masks; in
each queued record the axes dropped leave the axis list, the axes added stand in it with their present values, and the axes kept keep
theirs; causes and other lists are left (R186). -/
def Obligations.ReportsAreReadAndSubscribed : Prop :=
  (∀ (s : State) (p : Port) (tag : Byte), s.acting = true → (s.port p).queueOk →
    ∃ t : State, exec (.readReport p tag []) s = .next t
      ∧ (∀ r rest, (s.port p).queue = r :: rest →
          t.answered p tag .done r.bytes ∧ (t.port p).queue = rest ∧ (t.port p).alert = !rest.isEmpty)
      ∧ ((s.port p).queue = [] → t = s.answer p tag .done [])
      ∧ (∀ q, q ≠ p → t.port q = s.port q) ∧ t.records = s.records ∧ t.retention = s.retention)
  ∧ (∀ (s : State) (p : Port) (tag m hi lo : Byte) (axes : AxisSet) (causes : CauseSet), s.acting = true →
    axisSetOfMask m = some axes → causeSetOfMask (hi.toNat * 256 + lo.toNat) = some causes →
    ∃ t : State, exec (.subscribe p tag [m, hi, lo]) s = .next t
      ∧ t.answered p tag .done [m, hi, lo]
      ∧ (t.port p).axisMask = axes ∧ (t.port p).causeMask = causes
      ∧ (t.port p).queue.length = (s.port p).queue.length
      ∧ (∀ (i : Nat) (r r' : ReportRecord), (s.port p).queue[i]? = some r → (t.port p).queue[i]? = some r' →
          { r' with axisList := r.axisList } = r
          ∧ ∀ a, r'.axisList.get a =
              if axes.get a then (if (s.port p).axisMask.get a then r.axisList.get a else some (s.record a).view) else none)
      ∧ (∀ q, q ≠ p → t.port q = s.port q) ∧ t.records = s.records ∧ t.retention = s.retention)

/-- Each event goes to the ports that R188 names. The delivery of a port's events is one record: appended to a queue of 0 to 3 with the
alert line asserted, or merged into the newest of a full queue, whose three oldest stand. It joins the causes, takes the axis list of the
moment, and holds in the run-result, permit-wanted and ack-wanted lists and the blocked order the latest entry, or what stood there; the
pairs of RECOVERY_DONE are ack-wanted entries on the Safety Port (R187 to R189). -/
def Obligations.DeliveryAppendsOrUpdatesTheNewest : Prop :=
  (∀ (p : Port) (x : PortState) (a : Axis),
    delivered p x (.axisState a) = (x.causeMask.axisState && x.axisMask.get a)
    ∧ (∀ owner id res, delivered p x (.runEnd a owner id res) = (decide (owner.port = p) || (x.causeMask.runEnd && x.axisMask.get a)))
    ∧ delivered p x .moveOrder = decide (p = .motion)
    ∧ (∀ id, delivered p x (.permitWanted a id) = decide (p = .safety))
    ∧ (∀ epoch, delivered p x (.ackWanted a epoch) = decide (p = .safety))
    ∧ delivered p x .snapshot = (decide (p = .cell) && x.causeMask.snapshot)
    ∧ (∀ axes device, delivered p x (.calCommitted axes device) = x.causeMask.calCommitted)
    ∧ (∀ pairs, delivered p x (.recoveryDone pairs) = true)
    ∧ (∀ id, delivered p x (.channelBlocked a id) = decide (p ≠ .cell)))
  ∧ (∀ (p : Port) (v : PerAxis (Option AxisView)) (es : List ReportEvent) (x : PortState),
    let y := deliverTo p v es x
    (es = [] → y = x)
    ∧ (es ≠ [] → x.queue.length < 4 → ∃ r, y = { x with queue := x.queue ++ [r], alert := true }
        ∧ ReportRecord.tookDelivery
            { causes := ⟨false, false, false, false, false, false, false, false, false⟩, axisList := v
              runResults := PerAxis.const none, permitWanted := PerAxis.const none, ackWanted := PerAxis.const none
              blocked := none, committedAxes := PerAxis.const false, committedDevice := false } r p v es)
    ∧ (∀ r0 r1 r2 r3, es ≠ [] → x.queue = [r0, r1, r2, r3] → ∃ r, y = { x with queue := [r0, r1, r2, r] }
        ∧ ReportRecord.tookDelivery r3 r p v es))

/-- From RESTORING on the events of a command reach the ports that R188 names within that command, each as one delivery (log 25): AXIS_STATE of an INVALIDATE the
subscribers of the axis, and nobody without the cause; PERMIT_WANTED of a HOME the Safety Port; the RUN_END of a run that ends HOMED its
owner, and its ACK_WANTED the Safety Port; MOVE_ORDER of a CHANNEL_RESET that posts an order the Motion Port; CAL_COMMITTED of a commit
every subscriber; SNAPSHOT of a capture's commit a subscribed Cell Port alone (R26, R57, R80, R117, R120, R149, R188, R189). -/
def Obligations.EventsReachThePortsThatR188Names : Prop :=
  ∀ s : State, s.acting = true → s.portsOk → s.cont.phase ≠ .startup →
    (∀ p tag a, (s.record a).state.framed = true → p = .safety ∨ claimantOf p = some (s.authorityOf a) →
      ∃ t : State, exec (.invalidate p tag [byte (axisNumber a)]) s = .next t
        ∧ ∀ q, ((s.port q).causeMask.axisState = true → (s.port q).axisMask.get a = true →
              ∃ r, (s.port q).received (t.port q) .axisState r ∧ r.axisList.get a = some (t.record a).view)
            ∧ ((s.port q).causeMask.axisState = false → (t.port q).queue = (s.port q).queue ∧ (t.port q).alert = (s.port q).alert))
    ∧ (∀ p tag a, s.cont.phase = .running → claimantOf p = some (s.authorityOf a) → s.cal.validity = .valid →
      s.homingRecipe a ≠ [] → asksPermit (s.homingRecipe a) = true → (s.auth a).inhibited = false →
      (s.record a).state ≠ .homing → (s.record a).state ≠ .restoring → s.holdsDetachedOf a = false →
      ∃ t r, exec (.home p tag [byte (axisNumber a)]) s = .next t ∧ (s.port .safety).received (t.port .safety) .permitWanted r
        ∧ r.permitWanted.get a = some s.runIdCounter)
    ∧ (∀ a x, s.cont.phase ≠ .restoring → s.settleTimers.get a ≠ none → s.run a = some x → (s.record a).atRest = true →
      x.position + 1 = (s.recipeOf x).length → x.marked = true →
      ∃ t : State, exec (.settleTimerExpiry a) s = .next t
        ∧ (∃ r, (s.port x.owner.port).received (t.port x.owner.port) .runEnd r ∧ r.runResults.get a = some (x.runId, .homed))
        ∧ (∃ r, (s.port .safety).received (t.port .safety) .ackWanted r ∧ r.ackWanted.get a = some ((s.record a).epoch + 1)))
    ∧ (∀ tag a rest x st o, s.channel.slot = .blocked → s.channel.queue = a :: rest → s.run a = some x → s.stepOf x = some st →
      orderParts (s.calOf a) st.body = some o →
      ∃ t r, exec (.channelReset .motion tag []) s = .next t ∧ (s.port .motion).received (t.port .motion) .moveOrder r)
    ∧ (∀ p c tag, claimantOf p = some c → s.cont.pfw = false →
      ((s.cal.editsOf c).nonempty = true ∨ s.cal.editsDevice c = true) →
      s.commitDenied c = false → s.commitBlocked c = false → (s.cal.resulting c).validate s.recipeLength = none →
      ∃ t : State, exec (.commitCal p tag []) s = .next t
        ∧ ∀ q, (s.port q).causeMask.calCommitted = true → ∃ r, (s.port q).received (t.port q) .calCommitted r
            ∧ (∀ a, (s.cal.editsOf c).get a = true → r.committedAxes.get a = true)
            ∧ (s.cal.editsDevice c = true → r.committedDevice = true))
    ∧ (∀ x cap, s.link = some x → x.owner = .capture → s.cont.capture = some cap → cap.written + 1 = captureLength →
      ∃ t : State, exec .retentionByteWritten s = .next t
        ∧ ((s.port .cell).causeMask.snapshot = true → ∃ r, (s.port .cell).received (t.port .cell) .snapshot r)
        ∧ (∀ q, q ≠ .cell → (t.port q).queue = (s.port q).queue))

/-! ### Authority -/

/-- CLAIM and RELEASE from the Motion or Cell Port: with an axis of the mask claimed by the other port they are refused DENIED and
change only the held response. Otherwise CLAIM gives every named axis to the sender and discards an edit held by the port that
loses the authority (R53, R69, R73), and RELEASE makes every named axis claimed by the sender unclaimed (R70). A run there of the port that
loses the authority, or of the sender that releases, takes an abort with RELEASED by its phase, STOP posted for a live order, and
the pending result of a run in ENDING stands; the other runs stand, and the wait queue keeps its order without the runs that end (R72, R112,
R119, R123). -/
def Obligations.ClaimAndReleaseTakeEveryAxisOrNone : Prop :=
  (∀ (s : State) (p : Port) (c : Claimant) (tag m : Byte) (mask : AxisSet), s.acting = true → claimantOf p = some c →
    axisSetOfMask m = some mask →
    ((∃ a d, mask.get a = true ∧ (s.auth a).claim = some d ∧ d ≠ c) →
      exec (.claim p tag [m]) s = .next (s.answer p tag .denied (s.authPayload (s.heldByOther c mask))))
    ∧ ((∀ a, mask.get a = true → (s.auth a).claim = none ∨ (s.auth a).claim = some c) →
      ∃ t : State, exec (.claim p tag [m]) s = .next t
        ∧ (∀ a, (t.auth a).claim = if mask.get a then some c else (s.auth a).claim)
        ∧ (∀ a, (t.auth a).inhibited = (s.auth a).inhibited)
        ∧ (∀ a e, mask.get a = true → s.authorityOf a ≠ c → s.cal.axisEditor.get a = some e → e ≠ c →
            t.cal.axisEditor.get a = none ∧ t.cal.staging.axes.get a = s.cal.active.axes.get a)
        ∧ (let aborted := fun (a : Axis) => mask.get a && decide (s.authorityOf a ≠ c)
              && decide ((s.run a).map (fun r => r.owner) = some (s.authorityOf a))
           (∀ a r, s.run a = some r → aborted a = true → s.tookAbort t a r .released)
           ∧ (∀ a, aborted a = false → t.run a = s.run a) ∧ t.channel.queue = s.queueAfterAborts aborted)
        ∧ t.cal.active = s.cal.active ∧ t.answered p tag .done (t.authPayload (PerAxis.const false))))
  ∧ (∀ (s : State) (p : Port) (c : Claimant) (tag m : Byte) (mask : AxisSet), s.acting = true → claimantOf p = some c →
    axisSetOfMask m = some mask →
    ((∃ a d, mask.get a = true ∧ (s.auth a).claim = some d ∧ d ≠ c) →
      exec (.release p tag [m]) s = .next (s.answer p tag .denied (s.authPayload (s.heldByOther c mask))))
    ∧ ((∀ a, mask.get a = true → (s.auth a).claim = none ∨ (s.auth a).claim = some c) →
      ∃ t : State, exec (.release p tag [m]) s = .next t
        ∧ (∀ a, (t.auth a).claim = if mask.get a then none else (s.auth a).claim)
        ∧ (let aborted := fun (a : Axis) => mask.get a && decide ((s.auth a).claim = some c)
              && decide ((s.run a).map (fun r => r.owner) = some c)
           (∀ a r, s.run a = some r → aborted a = true → s.tookAbort t a r .released)
           ∧ (∀ a, aborted a = false → t.run a = s.run a) ∧ t.channel.queue = s.queueAfterAborts aborted)
        ∧ t.answered p tag .done (t.authPayload (PerAxis.const false))))

/-- FORCE_RELEASE and INHIBIT from the Safety Port: the claims of the named axes become NONE, or their inhibits SET with the
permits withdrawn; a run there (for INHIBIT, on an axis whose inhibit was CLEAR) ends at once in WAIT_PERMIT, WAIT_CHANNEL and SETTLING,
has STOP posted for its live order in ORDERED and MOVING, and is ENDING with the result pending there and in STOPPING; in ENDING the pending
result stands. The other runs stand, and the wait queue keeps its order without the runs that end (R71, R72, R74, R75, R112, R119, R123). -/
def Obligations.SafetyPortReleasesAndInhibits : Prop :=
  ∀ (s : State) (tag m : Byte) (mask : AxisSet), s.acting = true → axisSetOfMask m = some mask →
    (∃ t : State, exec (.forceRelease .safety tag [m]) s = .next t
      ∧ (∀ a, (t.auth a).claim = if mask.get a then none else (s.auth a).claim)
      ∧ (∀ a, (t.auth a).inhibited = (s.auth a).inhibited)
      ∧ (∀ a r, mask.get a = true → s.run a = some r → s.tookAbort t a r .released)
      ∧ (∀ a, mask.get a = false → t.run a = s.run a) ∧ t.channel.queue = s.queueAfterAborts mask.get
      ∧ t.answered .safety tag .done (t.authPayload (PerAxis.const false)))
    ∧ (∃ t : State, exec (.inhibit .safety tag [m]) s = .next t
      ∧ (∀ a, (t.auth a).inhibited = (mask.get a || (s.auth a).inhibited) ∧ (t.auth a).claim = (s.auth a).claim)
      ∧ (∀ a, mask.get a = true → (s.auth a).inhibited = false → t.noPermit a)
      ∧ (∀ a r, mask.get a = true → (s.auth a).inhibited = false → s.run a = some r → s.tookAbort t a r .inhibited)
      ∧ (∀ a, mask.get a = false ∨ (s.auth a).inhibited = true → t.run a = s.run a)
      ∧ t.channel.queue = s.queueAfterAborts (fun a => mask.get a && !(s.auth a).inhibited)
      ∧ t.answered .safety tag .done (t.authPayload (PerAxis.const false)))

/-- UNINHIBIT from the Safety Port clears the inhibits of the named axes and starts and restores nothing; from the other
ports it is refused NOT_PERMITTED, and a mask above axis 6 is refused RANGE (R76). -/
def Obligations.UninhibitOnlyClearsInhibits : Prop :=
  ∀ (s : State) (p : Port) (tag m : Byte), s.acting = true →
    (p ≠ .safety → exec (.uninhibit p tag [m]) s = .next (s.answer p tag .notPermitted []))
    ∧ (63 < m.toNat → exec (.uninhibit .safety tag [m]) s = .next (s.answer .safety tag .range []))
    ∧ (∀ mask, axisSetOfMask m = some mask → ∃ t : State, exec (.uninhibit .safety tag [m]) s = .next t
        ∧ (∀ a, t.auth a = { s.auth a with inhibited := (s.auth a).inhibited && !mask.get a })
        ∧ t.records = s.records ∧ t.runs = s.runs ∧ t.channel = s.channel ∧ t.runIdCounter = s.runIdCounter
        ∧ t.lastRuns = s.lastRuns ∧ t.cal.active = s.cal.active ∧ t.cal.staging = s.cal.staging
        ∧ t.answered .safety tag .done (t.authPayload (PerAxis.const false)))

/-- ACKNOWLEDGE from the Safety Port: every named axis that is PROVISIONAL at the epoch named becomes REFERENCED with epoch,
origin and loss cause kept, and no other axis changes its frame; a list of one pair is answered ACCEPTED, STALE or WRONG_STATE
with the state and epoch that the pair left (R17, R78, R79). -/
def Obligations.AcknowledgeReferencesMatchingEpochs : Prop :=
  ∀ (s : State) (tag : Byte) (payload : List Byte) (pairs : List (Axis × BitVec 16)), s.acting = true →
    formAcknowledge payload = some pairs →
    ∃ t : State, exec (.acknowledge .safety tag payload) s = .next t
      ∧ (∀ a, (t.record a).frame =
          ((if (s.record a).state = .provisional ∧ (a, (s.record a).epoch) ∈ pairs then .referenced else (s.record a).state)
            , (s.record a).origin, (s.record a).lossCause, (s.record a).epoch))
      ∧ (∀ a e, pairs = [(a, e)] →
          let r := s.record a
          (r.epoch ≠ e → t.answered .safety tag .done ([1, byte (axisNumber a), 1, byte r.state.code] ++ be 2 r.epoch.toNat))
          ∧ (r.epoch = e → r.state = .provisional →
              t.answered .safety tag .done ([1, byte (axisNumber a), 0, 4] ++ be 2 r.epoch.toNat))
          ∧ (r.epoch = e → r.state ≠ .provisional →
              t.answered .safety tag .done ([1, byte (axisNumber a), 2, byte r.state.code] ++ be 2 r.epoch.toNat)))

/-- GRANT_PERMIT from the Safety Port for a run that waits: DONE, and while the run lasts its permit is HELD with the timer stopped; a
run whose first step asks an order joins the wait queue where the slot is not free. A grant for an inhibited axis is INHIBITED, and
any other is STALE and changes nothing (R81, R106, R107). PERMIT_TIMER_EXPIRY: the permit record returns to NONE and the run ends
PERMIT_TIMEOUT, which makes its axis UNREFERENCED with HOMING_FAILED at its epoch (R16, R83). -/
def Obligations.GrantsAndPermitTimeoutsDecideTheWaitingRun : Prop :=
  (∀ (s : State) (tag id : Byte) (a : Axis), s.acting = true →
    ((s.auth a).inhibited = true → exec (.grantPermit .safety tag [byte (axisNumber a), id]) s =
      .next (s.answer .safety tag .inhibited []))
    ∧ ((s.auth a).inhibited = false → id ≠ 0 → ((s.auth a).permit ≠ .wanted ∨ (s.auth a).permitRun ≠ some id.toNat) →
      exec (.grantPermit .safety tag [byte (axisNumber a), id]) s = .next (s.answer .safety tag .stale []))
    ∧ ((s.auth a).inhibited = false → id ≠ 0 → (s.auth a).permit = .wanted → (s.auth a).permitRun = some id.toNat →
      ∃ t : State, exec (.grantPermit .safety tag [byte (axisNumber a), id]) s = .next t
        ∧ t.answered .safety tag .done []
        ∧ (t.run a ≠ none → (t.auth a).permit = .held ∧ (t.auth a).permitRun = some id.toNat ∧ (t.auth a).permitTimer = none)
        ∧ (∀ r st, s.run a = some r → s.stepOf r = some st → st.cond = .always →
            (st.body = .loadCheck ∨ ∃ d v w, st.body = .moveBy d v w) → s.channel.slot ≠ .empty →
            t.run a = some { r with phase := .waitChannel } ∧ t.channel.queue = s.channel.queue ++ [a])))
  ∧ (∀ (s : State) (a : Axis) (r : Run), s.acting = true → (s.auth a).permitTimer ≠ none → (s.auth a).permit = .wanted →
    s.run a = some r →
    ∃ t : State, exec (.permitTimerExpiry a) s = .next t ∧ t.noPermit a ∧ t.ranTo a r .permitTimeout
      ∧ (t.record a).frame = (.unreferenced, .none, .homingFailed, (s.record a).epoch) ∧ (t.record a).runId = none
      ∧ (∀ b, b ≠ a → t.run b = s.run b ∧ t.auth b = s.auth b ∧ (t.record b).core = (s.record b).core))

/-- REFUSE_PERMIT: NOT_PERMITTED from the Motion and Cell Ports, RANGE for an axis outside 1 to 6 or a run id of 0; for a run that
waits, inhibited or not, the permit record returns to NONE and the run ends PERMIT_REFUSED; any other refusal is STALE and changes
nothing (R82). -/
def Obligations.RefusalEndsTheWaitingRun : Prop :=
  ∀ (s : State) (p : Port) (tag b id : Byte) (a : Axis), s.acting = true →
    (p ≠ .safety → exec (.refusePermit p tag [b, id]) s = .next (s.answer p tag .notPermitted []))
    ∧ (b.toNat = 0 ∨ 6 < b.toNat → exec (.refusePermit .safety tag [b, id]) s = .next (s.answer .safety tag .range []))
    ∧ exec (.refusePermit .safety tag [byte (axisNumber a), 0]) s = .next (s.answer .safety tag .range [])
    ∧ (id ≠ 0 → ((s.auth a).permit ≠ .wanted ∨ (s.auth a).permitRun ≠ some id.toNat) →
      exec (.refusePermit .safety tag [byte (axisNumber a), id]) s = .next (s.answer .safety tag .stale []))
    ∧ (id ≠ 0 → (s.auth a).permit = .wanted → (s.auth a).permitRun = some id.toNat →
      ∃ t : State, exec (.refusePermit .safety tag [byte (axisNumber a), id]) s = .next t
        ∧ t.answered .safety tag .done [] ∧ t.noPermit a
        ∧ (∀ b, b ≠ a → t.auth b = s.auth b ∧ t.run b = s.run b ∧ (t.record b).core = (s.record b).core)
        ∧ (∀ r, s.run a = some r → t.ranTo a r .permitRefused
            ∧ (t.record a).frame = (.unreferenced, .none, .homingFailed, (s.record a).epoch)))

/-! ### References -/

/-- HOME is checked in the order of R103, and a refused HOME changes nothing but the held response (NOT_READY in RESTORING for a decided axis too:
the model's reading, log 41). HOME that passes is ACCEPTED with
the run id and whether a permit is asked; the run-id counter advances, passing from 255 to 1. A recipe with a motion step leaves the run
in WAIT_PERMIT with the permit WANTED and its timer at permit_timeout, and the axis HOMING at a new epoch where it was framed, its count
kept (R15, R80, R101, R104). -/
def Obligations.HomeIsRefusedInOrderOrCreatesARun : Prop :=
  (∀ (s : State) (p : Port) (tag b : Byte) (a : Axis), s.acting = true →
    exec (.home .safety tag [b]) s = .next (s.answer .safety tag .notPermitted [])
    ∧ (p ≠ .safety → b.toNat = 0 ∨ 6 < b.toNat → exec (.home p tag [b]) s = .next (s.answer p tag .range []))
    ∧ (p ≠ .safety → s.cont.phase ≠ .running ∨ s.cal.validity = .invalid ∨ s.homingRecipe a = [] →
        exec (.home p tag [byte (axisNumber a)]) s = .next (s.answer p tag .notReady []))
    ∧ (p ≠ .safety → s.cont.phase = .running → s.cal.validity = .valid → s.homingRecipe a ≠ [] →
        (s.record a).state ≠ .restoring →
        (claimantOf p ≠ some (s.authorityOf a) →
          exec (.home p tag [byte (axisNumber a)]) s = .next (s.answer p tag .denied []))
        ∧ (claimantOf p = some (s.authorityOf a) → (s.auth a).inhibited = true →
          exec (.home p tag [byte (axisNumber a)]) s = .next (s.answer p tag .inhibited []))
        ∧ (claimantOf p = some (s.authorityOf a) → (s.auth a).inhibited = false → (s.record a).state = .homing →
          exec (.home p tag [byte (axisNumber a)]) s = .next (s.answer p tag .wrongState []))
        ∧ (claimantOf p = some (s.authorityOf a) → (s.auth a).inhibited = false → (s.record a).state ≠ .homing →
          s.holdsDetachedOf a = true → exec (.home p tag [byte (axisNumber a)]) s = .next (s.answer p tag .busy []))))
  ∧ (∀ (s : State) (p : Port) (c : Claimant) (tag : Byte) (a : Axis), s.acting = true → claimantOf p = some c →
    s.cont.phase = .running → s.cal.validity = .valid → s.homingRecipe a ≠ [] → s.authorityOf a = c →
    (s.auth a).inhibited = false → (s.record a).state ≠ .homing → (s.record a).state ≠ .restoring →
    s.holdsDetachedOf a = false →
    let r := s.record a
    ∃ t : State, exec (.home p tag [byte (axisNumber a)]) s = .next t
      ∧ t.answered p tag .accepted [byte s.runIdCounter, flagByte (asksPermit (s.homingRecipe a))]
      ∧ t.runIdCounter = (if s.runIdCounter < 255 then s.runIdCounter + 1 else 1)
      ∧ (asksPermit (s.homingRecipe a) = true →
          t.run a = some { runId := s.runIdCounter, owner := c, recipeIndex := (s.calOf a).recipeIndex, position := 0
                           l0 := false, l1 := false, latch := none, marked := false, phase := .waitPermit, orderId := none
                           stepStart := none, pendingResult := none }
          ∧ (t.auth a).permit = .wanted ∧ (t.auth a).permitRun = some s.runIdCounter
          ∧ (t.auth a).permitTimer = some (s.cal.active.device.permitTimeout * 1000000)
          ∧ (t.record a).frame = (.homing, .none, r.lossCause, if r.state.framed then r.epoch + 1 else r.epoch)
          ∧ (t.record a).runId = some s.runIdCounter ∧ (t.record a).turn = r.turn ∧ (t.record a).fine = r.fine
          ∧ (t.record a).position = none
          ∧ (∀ b, b ≠ a → t.run b = s.run b ∧ t.auth b = s.auth b ∧ (t.record b).core = (s.record b).core)
          ∧ t.channel = s.channel))

/-- ABORT_HOME: DENIED to a sender that is neither the run's owner nor the effective authority, WRONG_STATE without a run,
otherwise DONE and the run takes an abort with ABORTED by its phase: it ends at once in WAIT_PERMIT, WAIT_CHANNEL and SETTLING; STOP is posted
for its live order in ORDERED and MOVING; it is ENDING with the result pending there and in STOPPING, and stands in ENDING.
The other runs stand, and the wait queue keeps its order without a run that ends (R112, R113, R119, R123). -/
def Obligations.AbortHomeAbortsByPhase : Prop :=
  ∀ (s : State) (p : Port) (c : Claimant) (tag : Byte) (a : Axis), s.acting = true → claimantOf p = some c →
    exec (.abortHome .safety tag [byte (axisNumber a)]) s = .next (s.answer .safety tag .notPermitted [])
    ∧ (s.authorityOf a ≠ c → (∀ r, s.run a = some r → r.owner ≠ c) →
        exec (.abortHome p tag [byte (axisNumber a)]) s = .next (s.answer p tag .denied []))
    ∧ (s.authorityOf a = c → s.run a = none →
        exec (.abortHome p tag [byte (axisNumber a)]) s = .next (s.answer p tag .wrongState []))
    ∧ (∀ r, s.run a = some r → (r.owner = c ∨ s.authorityOf a = c) →
        ∃ t : State, exec (.abortHome p tag [byte (axisNumber a)]) s = .next t ∧ t.answered p tag .done []
          ∧ s.tookAbort t a r .aborted ∧ (∀ b, b ≠ a → t.run b = s.run b)
          ∧ t.channel.queue = s.queueAfterAborts (fun b => decide (b = a)))

/-- INVALIDATE: RANGE outside 1 to 6, NOT_READY in RESTORING, DENIED to a Motion or Cell Port that is not the authority,
WRONG_STATE in UNREFERENCED and HOMING; a framed axis becomes UNREFERENCED with INVALIDATED at a new epoch, its count kept
(R20). -/
def Obligations.InvalidateRemovesTheFrame : Prop :=
  ∀ (s : State) (p : Port) (tag b : Byte) (a : Axis), s.acting = true →
    (b.toNat = 0 ∨ 6 < b.toNat → exec (.invalidate p tag [b]) s = .next (s.answer p tag .range []))
    ∧ ((s.record a).state = .restoring →
        exec (.invalidate p tag [byte (axisNumber a)]) s = .next (s.answer p tag .notReady []))
    ∧ ((s.record a).state ≠ .restoring → p ≠ .safety → claimantOf p ≠ some (s.authorityOf a) →
        exec (.invalidate p tag [byte (axisNumber a)]) s = .next (s.answer p tag .denied []))
    ∧ ((s.record a).state = .unreferenced ∨ (s.record a).state = .homing →
        p = .safety ∨ claimantOf p = some (s.authorityOf a) →
        exec (.invalidate p tag [byte (axisNumber a)]) s = .next (s.answer p tag .wrongState []))
    ∧ ((s.record a).state.framed = true → p = .safety ∨ claimantOf p = some (s.authorityOf a) →
        ∃ t : State, exec (.invalidate p tag [byte (axisNumber a)]) s = .next t ∧ t.answered p tag .done []
          ∧ (t.record a).frame = (.unreferenced, .none, .invalidated, (s.record a).epoch + 1)
          ∧ (t.record a).turn = (s.record a).turn ∧ (t.record a).fine = (s.record a).fine ∧ (t.record a).position = none
          ∧ (∀ c, c ≠ a → (t.record c).core = (s.record c).core)
          ∧ t.runs = s.runs ∧ t.authority = s.authority ∧ t.channel = s.channel ∧ t.sensors = s.sensors)

/-- ACCEPT_REFERENCE: NOT_PERMITTED from the Safety Port, RANGE outside 1 to 6, NOT_READY in RESTORING, DENIED to a port that is
not the authority, WRONG_STATE outside SUSPECT; a SUSPECT axis becomes PROVISIONAL at a new epoch with its origin, loss cause
and COARSE_WARN kept and its disagreement count 0 (R19). -/
def Obligations.AcceptReferenceTrustsASuspectFrame : Prop :=
  ∀ (s : State) (p : Port) (tag b : Byte) (a : Axis), s.acting = true →
    exec (.acceptReference .safety tag [b]) s = .next (s.answer .safety tag .notPermitted [])
    ∧ (p ≠ .safety → b.toNat = 0 ∨ 6 < b.toNat → exec (.acceptReference p tag [b]) s = .next (s.answer p tag .range []))
    ∧ (p ≠ .safety → (s.record a).state = .restoring →
        exec (.acceptReference p tag [byte (axisNumber a)]) s = .next (s.answer p tag .notReady []))
    ∧ (p ≠ .safety → (s.record a).state ≠ .restoring → claimantOf p ≠ some (s.authorityOf a) →
        exec (.acceptReference p tag [byte (axisNumber a)]) s = .next (s.answer p tag .denied []))
    ∧ (claimantOf p = some (s.authorityOf a) → (s.record a).state ≠ .restoring → (s.record a).state ≠ .suspect →
        exec (.acceptReference p tag [byte (axisNumber a)]) s = .next (s.answer p tag .wrongState []))
    ∧ (claimantOf p = some (s.authorityOf a) → (s.record a).state = .suspect →
        ∃ t : State, exec (.acceptReference p tag [byte (axisNumber a)]) s = .next t ∧ t.answered p tag .done []
          ∧ (t.record a).frame = (.provisional, (s.record a).origin, (s.record a).lossCause, (s.record a).epoch + 1)
          ∧ (t.record a).disagreements = 0 ∧ (t.record a).sticky.coarseWarn = (s.record a).sticky.coarseWarn
          ∧ (∀ c, c ≠ a → (t.record c).core = (s.record c).core)
          ∧ t.runs = s.runs ∧ t.authority = s.authority ∧ t.channel = s.channel ∧ t.sensors = s.sensors)

/-- CLEAR_FLAGS from any port: the named sticky flags of every named axis are clear, and nothing else of any record or block
changes but the held response; an empty mask or set clears nothing (R23, R26). -/
def Obligations.ClearFlagsClearsOnlyTheNamedFlags : Prop :=
  ∀ (s : State) (p : Port) (tag m f : Byte) (mask : AxisSet) (flags : StickyFlags), s.acting = true →
    axisSetOfMask m = some mask → stickyOfMask f = some flags →
    ∃ t : State, exec (.clearFlags p tag [m, f]) s = .next t ∧ t.answered p tag .done []
      ∧ (∀ a, mask.get a = true → t.record a = { s.record a with sticky :=
          ⟨(s.record a).sticky.arithOverflow && !flags.arithOverflow, (s.record a).sticky.frameError && !flags.frameError,
           (s.record a).sticky.coarseWarn && !flags.coarseWarn, (s.record a).sticky.contactSeen && !flags.contactSeen⟩ })
      ∧ (∀ a, mask.get a = false → t.record a = s.record a)
      ∧ t = { s with records := t.records, ports := t.ports }
      ∧ t.port p = { s.port p with held := some { tag := tag, code := .done, payload := [] } }
      ∧ ∀ q, q ≠ p → t.port q = s.port q

/-! ### The Move Channel -/

/-- MOVE_ACCEPT: NOT_PERMITTED from the Safety and Cell Ports; a POSTED order of that id becomes ACTIVE with its accept timer
stopped, its run is MOVING, and the Load Monitor has it as the live order with the contact values that it took at its posting, an empty
contact window and the exceed count 0; a HOLD starts the load sample timer with its load delay and no watch, any other order the watch, which
ignores the ramp_ignore of the order where that is not 0; the classification timer stops, and the current window is kept. Anything else is
STALE and changes nothing (R122, R130, R132, R133, R135). -/
def Obligations.MoveAcceptActivatesThePostedOrder : Prop :=
  ∀ (s : State) (p : Port) (tag id : Byte), s.acting = true →
    (p ≠ .motion → exec (.moveAccept p tag [id]) s = .next (s.answer p tag .notPermitted []))
    ∧ (id ≠ 0 → (s.channel.slot ≠ .posted ∨ ∀ o, s.channel.order = some o → o.orderId ≠ id.toNat) →
        exec (.moveAccept .motion tag [id]) s = .next (s.answer .motion tag .stale []))
    ∧ (∀ o r, id ≠ 0 → s.channel.slot = .posted → s.channel.order = some o → o.orderId = id.toNat → s.run o.axis = some r →
        ∃ t : State, exec (.moveAccept .motion tag [id]) s = .next t ∧ t.answered .motion tag .done []
          ∧ t.channel = { s.channel with slot := .active, acceptTimer := none }
          ∧ t.run o.axis = some { r with phase := .moving }
          ∧ t.load o.axis =
              { window := (s.load o.axis).window, classTimer := none
                liveOrder := some { kind := o.kind, orderId := o.orderId, acceptedAt := s.now }
                contactValues := some { margin := o.contactMargin, count := o.contactCount, rampIgnore := o.rampIgnore }
                sampleTimer := (t.load o.axis).sampleTimer
                watch := if o.kind = .hold then .off else if o.rampIgnore = 0 then .watching else .ignoring
                ignoreTimer := if o.kind = .hold ∨ o.rampIgnore = 0 then none else some (o.rampIgnore * 1000)
                contactWindow := [], exceed := 0 }
          ∧ (∀ d, o.kind = .hold → o.loadDelay = some d → (t.load o.axis).sampleTimer = some (d * 1000))
          ∧ (o.kind ≠ .hold → (t.load o.axis).sampleTimer = none)
          ∧ (∀ b, b ≠ o.axis → t.run b = s.run b ∧ t.load b = s.load b) ∧ t.records = s.records)

/-- MOVE_END that the slot does not take is STALE and changes nothing; one that it takes is DONE, and leaves the slot EMPTY with no run
waiting where the run ends with it. A run in ENDING ends with its pending result; one in ORDERED, and one in STOPPING or MOVING with
REFUSED or FAULT, ends MOVE_REJECTED; one in MOVING does so with an unasked STOPPED, and ends with REACHED as its step says: NO_SWITCH,
SWITCH_STUCK, NO_INDEX, or MOVE_REJECTED for a LOAD_CHECK. A step of a run in STOPPING with STOPPED or REACHED, and a MOVE_BY that is
REACHED, is done: at the last position the run ends HOMED where it is marked, else NOT_MARKED (R110, R115, R124). -/
def Obligations.MoveEndEndsTheOrder : Prop :=
  ∀ (s : State) (p : Port) (tag id code : Byte) (out : MoveOutcome), s.acting = true → id ≠ 0 →
    moveOutcomeOfCode code.toNat = some out →
    (p ≠ .motion → exec (.moveEnd p tag [id, code]) s = .next (s.answer p tag .notPermitted []))
    ∧ ((s.channel.slot = .empty ∨ s.channel.slot = .blocked ∨ (s.channel.slot = .posted ∧ out ≠ .refused)
          ∨ ∀ o, s.channel.order = some o → o.orderId ≠ id.toNat) →
        exec (.moveEnd .motion tag [id, code]) s = .next (s.answer .motion tag .stale []))
    ∧ (∀ o, s.channel.order = some o → o.orderId = id.toNat →
        (s.channel.slot = .active ∨ s.channel.slot = .stopping ∨ (s.channel.slot = .posted ∧ out = .refused)) →
        ∃ t : State, exec (.moveEnd .motion tag [id, code]) s = .next t ∧ t.answered .motion tag .done []
          ∧ (s.channel.detached = true → s.channel.queue = [] → t.channel.slot = .empty ∧ t.channel.order = none)
          ∧ (∀ r, s.channel.detached = false → s.run o.axis = some r →
              let ends := fun (res : RunResult) => t.lastRuns.get o.axis = some (r.runId, res)
                ∧ (s.channel.queue = [] → t.run o.axis = none ∧ t.channel.slot = .empty ∧ t.channel.order = none)
              let stepDone := r.position + 1 = (s.recipeOf r).length → ends (if r.marked then .homed else .notMarked)
              (∀ res, r.phase = .ending → r.pendingResult = some res → ends res)
              ∧ (r.phase = .ordered → ends .moveRejected)
              ∧ (r.phase = .stopping → out = .refused ∨ out = .fault → ends .moveRejected)
              ∧ (r.phase = .stopping → out = .stopped ∨ out = .reached → stepDone)
              ∧ (r.phase = .moving → out ≠ .reached → ends .moveRejected)
              ∧ (∀ cond d v l w, r.phase = .moving → out = .reached →
                  (s.stepOf r = some ⟨cond, .seekSwitch d v l w⟩ → ends .noSwitch)
                  ∧ (s.stepOf r = some ⟨cond, .leaveSwitch d v l w⟩ → ends .switchStuck)
                  ∧ (s.stepOf r = some ⟨cond, .seekIndex d v l w⟩ → ends .noIndex)
                  ∧ (s.stepOf r = some ⟨cond, .loadCheck⟩ → ends .moveRejected))
              ∧ (∀ cond dist v w, r.phase = .moving → out = .reached → s.stepOf r = some ⟨cond, .moveBy dist v w⟩ → stepDone)))

/-- After a step is done the run takes the steps behind it at once: MOVE_END of a step that was stopped or of a MOVE_BY that is REACHED, the
expiry of a SETTLE with AT_REST set, and the switch sample that a run in WAIT_CHANNEL seeks, which leaves the queue from any place while
the others keep their order. A step whose condition is false is passed; a
CAPTURE writes its flag; a MARK rebases on the latch, or ends the run NO_INDEX; a VERIFY_COARSE passes or ends it; a SETTLE starts its
timer; a step that asks an order has it posted with the parts and the step time of R87, its timers and the watch of a SEEK_INDEX, or waits at the tail of the queue; behind the
last step the run ends (R3, R37, R39, R87 to R89, R91, R93 to R95, R107, R108, R110, R115, R119, R120). That the first switch sample after a
reset is such a change of level is the model's choice (log 10). -/
def Obligations.StepsGoOnAtOnce : Prop :=
  (∀ (s : State) (tag id code : Byte) (out : MoveOutcome) (o : Order) (x : Run), s.acting = true → id ≠ 0 →
    moveOutcomeOfCode code.toNat = some out → s.channel.order = some o → o.orderId = id.toNat →
    (s.channel.slot = .active ∨ s.channel.slot = .stopping) → s.channel.detached = false →
    s.run o.axis = some x →
    ((x.phase = .stopping ∧ (out = .stopped ∨ out = .reached))
      ∨ (x.phase = .moving ∧ out = .reached ∧ ∃ cond d v w, s.stepOf x = some ⟨cond, .moveBy d v w⟩)) →
    ∃ t : State, exec (.moveEnd .motion tag [id, code]) s = .next t ∧ t.answered .motion tag .done []
      ∧ s.wentOn t o.axis x true)
  ∧ (∀ (s : State) (a : Axis) (x : Run), s.acting = true → s.settleTimers.get a ≠ none → s.run a = some x →
    (s.record a).atRest = true →
    ∃ t : State, exec (.settleTimerExpiry a) s = .next t ∧ s.wentOn t a x (decide (s.channel.slot = .empty)))
  ∧ (∀ (s : State) (a : Axis) (asserted : Bool) (x : Run) (st : Step) (pre post : List Axis), s.acting = true → s.run a = some x →
    x.phase = .waitChannel → s.stepOf x = some st → s.channel.queue = pre ++ post → a ∉ s.channel.queue →
    let level : SwitchLevel := if asserted then .active else .inactive
    soughtLevel st.body = some level → s.switchChanges a level →
    ∃ t : State, exec (.homeSwitchSample a asserted) { s with channel := { s.channel with queue := pre ++ a :: post } } = .next t
      ∧ (s.setSensor a { s.sensor a with switchLevel := level }).wentOn t a x (decide (s.channel.slot = .empty))
      ∧ (s.channel.slot ≠ .empty → t.channel.queue.filter (fun b => decide (b ≠ a)) = s.channel.queue))

/-- CHANNEL_RESET: NOT_PERMITTED from the Safety and Cell Ports, WRONG_STATE in a slot that is not BLOCKED; in BLOCKED it is
DONE, the order is discarded, and with no run waiting the slot is EMPTY; otherwise the order of the head of the queue is posted with its
timers and the speed, direction, extent and step time that its step gives, and the watch of a SEEK_INDEX is set (R87, R108, R119, R120,
R126). -/
def Obligations.ChannelResetFreesABlockedSlot : Prop :=
  ∀ (s : State) (p : Port) (tag : Byte), s.acting = true →
    (p ≠ .motion → exec (.channelReset p tag []) s = .next (s.answer p tag .notPermitted []))
    ∧ (s.channel.slot ≠ .blocked → exec (.channelReset .motion tag []) s = .next (s.answer .motion tag .wrongState []))
    ∧ (s.channel.slot = .blocked → ∃ t : State, exec (.channelReset .motion tag []) s = .next t
        ∧ t.answered .motion tag .done []
        ∧ (s.channel.queue = [] → t.channel.slot = .empty ∧ t.channel.order = none ∧ t.runs = s.runs)
        ∧ (∀ a rest r st o, s.channel.queue = a :: rest → s.run a = some r → s.stepOf r = some st →
            orderParts (s.calOf a) st.body = some o →
            s.orderPosted t a r st.body o rest)
        ∧ t.records = s.records)

/-! ### Calibration and recipes -/

/-- SET_CAL and DISCARD_CAL act on staging alone. SET_CAL of an axis: DENIED without the authority, BUSY under another editor, RANGE
for a value outside the field's range, otherwise the field is written and the sender is the editor; of the device it is DENIED from the
Motion Port and likewise taken from the Cell Port. DISCARD_CAL copies the active fields back (R52, R54). COMMIT_CAL in STARTUP or while
PFW is asserted is NOT_READY; from a port that edits nothing it is DONE with the current fingerprint and an empty mask; a frame-defining
change of a HOMING or RESTORING axis is WRONG_STATE; a set that fails R56 is RANGE with the part and the check; none of them changes
anything but the held response (R55, R56; the numbers of the part and the check and their order are the model's, log 17). -/
def Obligations.CalibrationEditsAndRefusedCommitsKeepTheActiveSet : Prop :=
  (∀ (s : State) (p : Port) (c : Claimant) (tag : Byte) (a : Axis) (row : Byte) (v3 v2 v1 v0 : Byte), s.acting = true →
    claimantOf p = some c → s.cont.phase ≠ .startup →
    let v := intOfBytes [v3, v2, v1, v0]
    (s.authorityOf a ≠ c → exec (.setCal p tag [byte (axisNumber a), row, v3, v2, v1, v0]) s =
      .next (s.answer p tag .denied []))
    ∧ (∀ e, s.authorityOf a = c → s.cal.axisEditor.get a = some e → e ≠ c →
      exec (.setCal p tag [byte (axisNumber a), row, v3, v2, v1, v0]) s = .next (s.answer p tag .busy []))
    ∧ (s.authorityOf a = c → (s.cal.axisEditor.get a = none ∨ s.cal.axisEditor.get a = some c) →
      (∀ f, axisFieldOfRow row.toNat = some f → f.inRange v = false) →
      exec (.setCal p tag [byte (axisNumber a), row, v3, v2, v1, v0]) s = .next (s.answer p tag .range []))
    ∧ (∀ f, s.authorityOf a = c → (s.cal.axisEditor.get a = none ∨ s.cal.axisEditor.get a = some c) →
      axisFieldOfRow row.toNat = some f → f.inRange v = true →
      exec (.setCal p tag [byte (axisNumber a), row, v3, v2, v1, v0]) s =
        .next ((s.setCal { s.cal with
          staging := { s.cal.staging with axes := s.cal.staging.axes.set a ((s.cal.staging.axes.get a).withField f v) }
          axisEditor := s.cal.axisEditor.set a (some c) }).answer p tag .done []))
    ∧ (c = .motion → exec (.setCal p tag [0, row, v3, v2, v1, v0]) s = .next (s.answer p tag .denied []))
    ∧ (∀ f, c = .cell → (s.cal.deviceEditor = none ∨ s.cal.deviceEditor = some .cell) →
      deviceFieldOfRow row.toNat = some f → f.inRange v = true →
      exec (.setCal p tag [0, row, v3, v2, v1, v0]) s =
        .next ((s.setCal { s.cal with
          staging := { s.cal.staging with device := s.cal.staging.device.withField f v }
          deviceEditor := some .cell }).answer p tag .done []))
    ∧ (c = .cell → (s.cal.deviceEditor = none ∨ s.cal.deviceEditor = some .cell) →
      (∀ f, deviceFieldOfRow row.toNat = some f → f.inRange v = false) →
      exec (.setCal p tag [0, row, v3, v2, v1, v0]) s = .next (s.answer p tag .range []))
    ∧ (c = .cell → s.cal.deviceEditor = some .cell →
      exec (.discardCal p tag [0, 1]) s =
        .next ((s.setCal { s.cal with
          staging := { s.cal.staging with device := s.cal.active.device }, deviceEditor := none }).answer p tag .done []))
    ∧ (s.cal.axisEditor.get a = some c → ∃ t : State,
        exec (.discardCal p tag [byte (2 ^ (axisNumber a - 1)), 0]) s = .next t ∧ t.answered p tag .done []
        ∧ t.cal.staging.axes.get a = s.cal.active.axes.get a ∧ t.cal.axisEditor.get a = none
        ∧ t.cal.points.get a = ⟨none, none⟩ ∧ t.cal.active = s.cal.active ∧ t.cal.fingerprint = s.cal.fingerprint
        ∧ (∀ b, b ≠ a → t.cal.staging.axes.get b = s.cal.staging.axes.get b)
        ∧ t.records = s.records ∧ t.retention = s.retention))
  ∧ (∀ (s : State) (p : Port) (c : Claimant) (tag : Byte), s.acting = true → claimantOf p = some c →
    (s.cont.phase = .startup ∨ s.cont.pfw = true → exec (.commitCal p tag []) s = .next (s.answer p tag .notReady []))
    ∧ (s.cont.phase ≠ .startup → s.cont.pfw = false →
        (s.cal.editsOf c).nonempty = false → s.cal.editsDevice c = false →
        exec (.commitCal p tag []) s = .next (s.answer p tag .done (be 4 s.cal.fingerprint.toNat ++ [0])))
    ∧ (s.cont.phase ≠ .startup → s.cont.pfw = false → s.commitDenied c = false →
        (∃ a, s.cal.axisEditor.get a = some c
          ∧ (s.cal.active.axes.get a).definesFrame (s.cal.staging.axes.get a) = true
          ∧ ((s.record a).state = .homing ∨ (s.record a).state = .restoring)) →
        exec (.commitCal p tag []) s = .next (s.answer p tag .wrongState []))
    ∧ (∀ part check, s.cont.phase ≠ .startup → s.cont.pfw = false →
        ((s.cal.editsOf c).nonempty = true ∨ s.cal.editsDevice c = true) →
        s.commitDenied c = false → s.commitBlocked c = false →
        (s.cal.resulting c).validate s.recipeLength = some (part, check) →
        exec (.commitCal p tag []) s = .next (s.answer p tag .range [byte part, byte check])))

/-- COMMIT_CAL that passes its checks: the edits are in force, their editors NONE, axis by axis and of the device, the capture points of
the axes committed absent, the calibration VALID with the CRC-32 of the new image as its fingerprint, a calibration write in hand that carries
version, image and CRC-32 in the layout of R196, and the frame of every axis is as R22 gives it: removed by a change of sensor profile, scale or R, replaced by one of home_position, coupling
source or cscale, else kept; where the frame of a coupling source is removed or replaced, the position of its dependent is evaluated anew, and
ARITH_OVERFLOW is set where it overflows (R4, R5, R22, R55 to R58, R62, R63, R196; the version first and the CRC-32 last, log 18; the region from address 0 on, log 8). -/
def Obligations.CommitPutsTheEditsInForce : Prop :=
  ∀ (s : State) (p : Port) (c : Claimant) (tag : Byte), s.acting = true → claimantOf p = some c →
    s.cont.phase ≠ .startup → s.cont.pfw = false →
    ((s.cal.editsOf c).nonempty = true ∨ s.cal.editsDevice c = true) →
    s.commitDenied c = false → s.commitBlocked c = false → (s.cal.resulting c).validate s.recipeLength = none →
    let new := s.cal.resulting c
    ∃ t : State, exec (.commitCal p tag []) s = .next t
      ∧ t.answered p tag .done (be 4 new.fingerprint.toNat ++ [byte (s.cal.editsOf c).toMask])
      ∧ t.cal.active = new ∧ t.cal.validity = .valid ∧ t.cal.fingerprint = crc32 new.layout
      ∧ t.queuedWrite t.cal.write .calibration 0 (regionOf new.layout)
      ∧ (∀ a, s.cal.axisEditor.get a = some c → t.cal.axisEditor.get a = none ∧ t.cal.points.get a = ⟨none, none⟩)
      ∧ (∀ a, s.cal.axisEditor.get a ≠ some c → t.cal.axisEditor.get a = s.cal.axisEditor.get a
          ∧ t.cal.points.get a = s.cal.points.get a)
      ∧ t.cal.deviceEditor = (if s.cal.editsDevice c then none else s.cal.deviceEditor)
      ∧ (∀ a,
          let r := s.record a
          let o := s.cal.active.axes.get a
          let n := new.axes.get a
          (r.state.framed = true → (o.profile ≠ n.profile ∨ o.scale ≠ n.scale ∨ o.refCount ≠ n.refCount) →
            (t.record a).frame = (.unreferenced, .none, .calibrationChanged, r.epoch + 1))
          ∧ (r.state.framed = true → o.profile = n.profile → o.scale = n.scale → o.refCount = n.refCount →
              (o.homePosition ≠ n.homePosition ∨ o.couplingSource ≠ n.couplingSource ∨ o.couplingScale ≠ n.couplingScale) →
            (t.record a).frame = (.provisional, r.origin, r.lossCause, r.epoch + 1))
          ∧ (r.state.framed = false ∨ o.definesFrame n = false → (t.record a).frame = r.frame)
          ∧ (t.record a).turn = (if o.profile = n.profile then r.turn else 0) ∧ (t.record a).fine = r.fine)
      ∧ (∀ a b, (s.record a).state.framed = true → (s.cal.active.axes.get a).definesFrame (new.axes.get a) = true →
          (new.axes.get b).couplingSource = some a →
          (t.record b).position = (t.evaluated b).reported
            ∧ (t.overflows b → (t.record b).sticky.arithOverflow = true))

/-- CAPTURE_ZERO of a framed axis with a position P: the staging home_position becomes H + J − P and is answered; CAPTURE_COARSE
of a REFERENCED axis records the point, and with both points present writes the coarse fields that they give; both act on
staging alone (R64, R65). -/
def Obligations.CapturesFillStaging : Prop :=
  ∀ (s : State) (p : Port) (c : Claimant) (tag : Byte) (a : Axis) (pos : Int), s.acting = true → claimantOf p = some c →
    s.authorityOf a = c → (s.cal.axisEditor.get a = none ∨ s.cal.axisEditor.get a = some c) →
    (s.record a).position = some pos →
    (∀ j3 j2 j1 j0 : Byte,
      let j := intOfBytes [j3, j2, j1, j0]
      let home := (s.calOf a).homePosition + j - pos
      (s.record a).state.framed = true → inSignedRange j = true → inSignedRange home = true →
      ∃ t : State, exec (.captureZero p tag [byte (axisNumber a), j3, j2, j1, j0]) s = .next t
        ∧ t.answered p tag .done (beInt 4 home)
        ∧ t.cal.staging.axes.get a = { s.cal.staging.axes.get a with homePosition := home }
        ∧ t.cal.axisEditor.get a = some c ∧ t.cal.active = s.cal.active ∧ t.records = s.records)
    ∧ (∀ code, (s.record a).state = .referenced → (s.sensor a).coarseAverage = some code →
      ((s.cal.points.get a).point2 = none →
        ∃ t : State, exec (.captureCoarse p tag [byte (axisNumber a), 1]) s = .next t ∧ t.answered p tag .done []
          ∧ (t.cal.points.get a).point1 = some { code := code, joint := pos } ∧ t.cal.axisEditor.get a = some c
          ∧ t.cal.staging = s.cal.staging ∧ t.cal.active = s.cal.active ∧ t.records = s.records)
      ∧ (∀ p1 : CapturePoint, (s.cal.points.get a).point1 = some p1 → p1.code ≠ code →
        let g := roundQuot ((pos - p1.joint) * 2 ^ 16) ((code : Int) - (p1.code : Int))
        inSignedRange g = true →
        ∃ t : State, exec (.captureCoarse p tag [byte (axisNumber a), 2]) s = .next t
          ∧ t.answered p tag .done (be 2 p1.code ++ beInt 4 p1.joint ++ beInt 4 g)
          ∧ t.cal.staging.axes.get a =
              { s.cal.staging.axes.get a with coarseRef := p1.code, coarseHome := p1.joint, coarseGain := g }
          ∧ t.cal.active = s.cal.active ∧ t.records = s.records)
      ∧ (∀ p1 : CapturePoint, (s.cal.points.get a).point1 = some p1 → p1.code = code →
        exec (.captureCoarse p tag [byte (axisNumber a), 2]) s = .next (s.answer p tag .range [])))

/-- SET_STEP and CLEAR_RECIPE from the Cell Port outside STARTUP act on the named staging recipe alone: a step is replaced below the
length and appended at it, a position beyond it is RANGE, and a cleared recipe is empty (R97). COMMIT_RECIPES: NOT_READY in STARTUP
or while PFW is asserted, BUSY while a run exists, RANGE with recipe, position and check where the staging recipes fail validation;
otherwise the staging recipes are the active ones, VALID, with a recipe write in hand that carries version, image and CRC-32 in the layout of
R196 (R98, R99, R196; the version first and the CRC-32 last, log 18; the region from address 414 on, log 8). -/
def Obligations.RecipeRequestsEditAndCommitStaging : Prop :=
  (∀ (s : State) (tag i pos : Byte) (st : Step) (record : List Byte), s.acting = true → s.cont.phase ≠ .startup →
    i.toNat ≤ 15 → pos.toNat ≤ 11 → record.length = 10 →
    let steps := s.recipes.staging.getD i.toNat []
    (steps.length < pos.toNat → exec (.setStep .cell tag (i :: pos :: record)) s = .next (s.answer .cell tag .range []))
    ∧ (validStep record = none → exec (.setStep .cell tag (i :: pos :: record)) s = .next (s.answer .cell tag .range []))
    ∧ (validStep record = some st → pos.toNat < steps.length →
        exec (.setStep .cell tag (i :: pos :: record)) s =
          .next ((s.setRecipes { s.recipes with staging := s.recipes.staging.set i.toNat (steps.set pos.toNat st) }).answer
            .cell tag .done [byte steps.length]))
    ∧ (validStep record = some st → pos.toNat = steps.length →
        exec (.setStep .cell tag (i :: pos :: record)) s =
          .next ((s.setRecipes { s.recipes with staging := s.recipes.staging.set i.toNat (steps ++ [st]) }).answer
            .cell tag .done [byte (steps.length + 1)]))
    ∧ exec (.clearRecipe .cell tag [i]) s =
        .next ((s.setRecipes { s.recipes with staging := s.recipes.staging.set i.toNat [] }).answer .cell tag .done []))
  ∧ (∀ (s : State) (tag : Byte), s.acting = true →
    (s.cont.phase = .startup ∨ s.cont.pfw = true →
      exec (.commitRecipes .cell tag []) s = .next (s.answer .cell tag .notReady []))
    ∧ (∀ a, s.cont.phase ≠ .startup → s.cont.pfw = false → s.run a ≠ none →
      exec (.commitRecipes .cell tag []) s = .next (s.answer .cell tag .busy []))
    ∧ (∀ i pos check, s.cont.phase ≠ .startup → s.cont.pfw = false → (∀ a, s.run a = none) →
      recipesFailure s.recipes.staging 0 = some (i, pos, check) →
      exec (.commitRecipes .cell tag []) s = .next (s.answer .cell tag .range [byte i, byte pos, byte check]))
    ∧ (s.cont.phase ≠ .startup → s.cont.pfw = false → (∀ a, s.run a = none) → recipesFailure s.recipes.staging 0 = none →
      ∃ t : State, exec (.commitRecipes .cell tag []) s = .next t
        ∧ t.answered .cell tag .done (be 2 (changedRecipes s.recipes.active s.recipes.staging))
        ∧ t.recipes.active = s.recipes.staging ∧ t.recipes.staging = s.recipes.staging ∧ t.recipes.validity = .valid
        ∧ t.queuedWrite t.recipes.write .recipe 414 (regionOf (recipesLayout s.recipes.staging)) ∧ t.records = s.records ∧ t.cal.fingerprint = s.cal.fingerprint))

/-! ### Snapshots -/

/-- CHECKPOINT: NOT_PERMITTED from the Safety Port, NOT_READY in STARTUP and RESTORING, BUSY while a capture is in flight or PFW is
asserted; otherwise ACCEPTED with the target slot and the sequence, and a CHECKPOINT capture is in flight whose entries are the
records as they stand, with its first byte, WRITING, on a link that was free, and the axes outdated by earlier commands of the same µs are
pending (R143, R146, R148, R149, R196; that these are the events taken together with the freeze is the model's reading, log 39). DISCARD_SNAPSHOTS: NOT_PERMITTED from the Motion and Safety Ports, NOT_READY outside RUNNING,
BUSY while a capture is in flight; otherwise both header writes are queued, the directory shows both slots EMPTY and no newest slot, the
queued marks are dropped, and MOVING_SINCE_CAPTURE is set in every record (R154; the marks of the directory stay shown, log 38). -/
def Obligations.SnapshotRequestsCaptureOrDiscard : Prop :=
  (∀ (s : State) (p : Port) (tag : Byte), s.acting = true →
    exec (.checkpoint .safety tag []) s = .next (s.answer .safety tag .notPermitted [])
    ∧ (p ≠ .safety → s.cont.phase = .startup ∨ s.cont.phase = .restoring →
        exec (.checkpoint p tag []) s = .next (s.answer p tag .notReady []))
    ∧ (p ≠ .safety → s.cont.phase = .running ∨ s.cont.phase = .holdup → s.cont.capture ≠ none ∨ s.cont.pfw = true →
        exec (.checkpoint p tag []) s = .next (s.answer p tag .busy []))
    ∧ (p ≠ .safety → s.cont.phase = .running ∨ s.cont.phase = .holdup → s.cont.capture = none → s.cont.pfw = false →
        ∃ t cap, exec (.checkpoint p tag []) s = .next t ∧ t.cont.capture = some cap
          ∧ cap.buffer.reason = .checkpoint ∧ cap.buffer.fingerprint = s.cal.fingerprint
          ∧ (∀ sl, s.cont.newest = some sl →
              cap.target = sl.other ∧ cap.buffer.sequence = (s.cont.slot sl).sequence + 1)
          ∧ (s.cont.newest = none → cap.target = .a ∧ cap.buffer.sequence = 1)
          ∧ t.answered p tag .accepted (byte (slotCode (some cap.target)) :: be 4 cap.buffer.sequence.toNat)
          ∧ (∀ a, (s.record a).state ≠ .restoring → cap.buffer.entries.get a =
              { stateCode := byte (s.record a).state.code, turn := (s.record a).turn, fine := (s.record a).fine
                originCode := byte (s.record a).origin.code, epoch := (s.record a).epoch
                loadCode := byte (s.record a).loadClass.code, movingCode := if (s.record a).atRest then 0 else 1
                stickyCode := byte (s.record a).sticky.toMask }
              ∧ t.cont.pendingMarks.get a = s.outdatedNow.get a)
          ∧ (s.link = none → s.cont.waitingSlotWrites = [] →
              t.link = some { owner := .capture, addr := retentionAddr (slotBase cap.target), value := 0x5A })
          ∧ t.records = s.records ∧ t.cont.newest = s.cont.newest))
  ∧ (∀ (s : State) (p : Port) (tag : Byte), s.acting = true →
    (p ≠ .cell → exec (.discardSnapshots p tag []) s = .next (s.answer p tag .notPermitted []))
    ∧ (s.cont.phase ≠ .running → exec (.discardSnapshots .cell tag []) s = .next (s.answer .cell tag .notReady []))
    ∧ (s.cont.phase = .running → s.cont.capture ≠ none →
        exec (.discardSnapshots .cell tag []) s = .next (s.answer .cell tag .busy []))
    ∧ (s.cont.phase = .running → s.cont.capture = none → ∃ t : State, exec (.discardSnapshots .cell tag []) s = .next t
        ∧ t.answered .cell tag .done []
        ∧ t.cont.slotA = { s.cont.slotA with state := .empty } ∧ t.cont.slotB = { s.cont.slotB with state := .empty }
        ∧ t.cont.newest = none ∧ t.cont.waitingSlotWrites = s.cont.waitingSlotWrites ++ [.a, .b] ∧ t.cont.waitingMarks = []
        ∧ (∀ a, t.record a = { s.record a with movingSinceCapture := true }) ∧ t.retention = s.retention))

/-- An outdating event sets a mark (R148, R153): an advance beyond the slip window of the reference entry, in RUNNING and HOLDUP (R33, R152);
a change of frame by INVALIDATE or HOME. When a byte is done the arbiter begins the next: a header write of a discard, then the capture in
flight, then the first queued mark, a byte 01 at its axis's place behind the slot, then the calibration write, then the recipe write; a
mark written leaves the queue (R143, R154). A capture writes its bytes one after the other in the order of R149 and the layout of R196, and a
region write those of its region, going on where it was paused (R63, R99, R143, R149, R196). The model's choice: the addresses of the regions
and slots (log 8); that a region is written in the order of its offsets (log 18); that a PARK capture which starts in the same event
holds pending what earlier commands of the same µs outdated, and not this event (log 39); that a mark stands at the head of the waiting marks while its byte is on
the link and leaves them when it is written (log 40). -/
def Obligations.OutdatingEventsSetMarksAndTheLinkWritesThem : Prop :=
  (∀ (s : State) (a : Axis) (began : Micros) (frame : List Bool) (fine : Nat) (e : SnapEntry),
    s.acting = true → s.pollingSince ≠ none → s.pollDiscarded a began = false →
    s.cont.phase = .running ∨ s.cont.phase = .holdup → unpack (s.calOf a).profile frame = some fine →
    (s.sensor a).readStatus = .tracking →
    ((∃ cap, s.cont.capture = some cap ∧ e = cap.buffer.entries.get a)
      ∨ (s.cont.capture = none ∧ ∃ sl, s.cont.newest = some sl ∧ e = (s.cont.slot sl).entries.get a)) →
    let r := s.record a
    let delta := bringIntoTurn ((fine : Int) - (r.fine : Int)) (s.cpt a)
    let turn := if (s.cpt a : Int) ≤ (r.fine : Int) + delta then r.turn + 1
      else if (r.fine : Int) + delta < 0 then r.turn - 1 else r.turn
    let beyond := slipWindow (s.calOf a) e = none
      ∨ ∃ w, slipWindow (s.calOf a) e = some w ∧ w < (s.count a + delta - motorCount e.turn e.fine (s.cpt a)).natAbs
    delta.natAbs * 8 ≤ ((s.sensor a).failedReads + 1) * s.cpt a → -32767 ≤ turn ∧ turn ≤ 32767 → delta ≠ 0 →
    ∃ t : State, exec (.readEvent a began frame) s = .next t
      ∧ (beyond → s.tookMark t a)
      ∧ (¬ beyond → t.cont.pendingMarks = s.cont.pendingMarks ∧ (t.record a).movingSinceCapture = r.movingSinceCapture
          ∧ (s.cont.capture = none → ∀ sl, t.cont.slot sl = s.cont.slot sl)))
  ∧ (∀ (s : State) (p : Port) (tag : Byte) (a : Axis), s.acting = true →
    ((s.record a).state.framed = true → p = .safety ∨ claimantOf p = some (s.authorityOf a) →
      ∃ t : State, exec (.invalidate p tag [byte (axisNumber a)]) s = .next t ∧ s.tookMark t a)
    ∧ (s.cont.phase = .running → s.cal.validity = .valid → s.homingRecipe a ≠ [] → claimantOf p = some (s.authorityOf a) →
      (s.auth a).inhibited = false → (s.record a).state ≠ .homing → (s.record a).state ≠ .restoring →
      s.holdsDetachedOf a = false →
      ∃ t : State, exec (.home p tag [byte (axisNumber a)]) s = .next t ∧ s.tookMark t a))
  ∧ (∀ (s : State) (x : LinkByte), s.acting = true → s.link = some x →
    ∃ t : State, exec .retentionByteWritten s = .next t
      ∧ (∀ sl a, x.owner = .mark sl a → (sl, a) ∉ t.cont.waitingMarks)
      ∧ (∀ sl rest, t.cont.waitingSlotWrites = sl :: rest →
          t.link = some { owner := .slotHeader, addr := retentionAddr (slotBase sl), value := SlotState.empty.byte })
      ∧ (∀ cap, t.cont.waitingSlotWrites = [] → t.cont.capture = some cap → cap.written < 129 →
          let w := cap.buffer.slotWrite cap.written
          t.link = some { owner := .capture, addr := retentionAddr (slotBase cap.target + w.1), value := w.2 }
          ∧ (cap.written = 0 → (t.cont.slot cap.target).state = .writing))
      ∧ (∀ cap, s.cont.capture = some cap →
          (x.owner ≠ .capture → t.cont.capture = some cap)
          ∧ (x.owner = .capture → cap.written + 1 < 129 → t.cont.capture = some { cap with written := cap.written + 1 }))
      ∧ (t.cont.waitingSlotWrites = [] → t.cont.capture = none →
          (∀ sl a rest, t.cont.waitingMarks = (sl, a) :: rest →
            t.link = some { owner := .mark sl a, addr := retentionAddr (slotBase sl + 121 + axisNumber a), value := 1 })
          ∧ (t.cont.waitingMarks = [] →
            (t.cal.write ≠ .none → t.servedWrite s.cal.write t.cal.write .calibration x.owner 0)
            ∧ (t.cal.write = .none → t.recipes.write ≠ .none →
                t.servedWrite s.recipes.write t.recipes.write .recipe x.owner 414)
            ∧ (t.cal.write = .none → t.recipes.write = .none → t.link = none))))

/-! ### Joint arithmetic -/

/-- The joint value is home_position plus the quotient by 2^24 rounded to the nearest whole number, ties to the even one, with the
coupling term of an axis that has a source (R46); the reported position is that value for a framed axis with a framed source or none,
within −2147483647 to +2147483647, and INDEFINITE otherwise (R4, R47), with BEYOND_LIMIT where that value lies below soft_low or above
soft_high (R5); an evaluation writes both and sets ARITH_OVERFLOW where the joint value of such an axis lies outside that range (R4). The coarse joint value is coarse_home plus a quotient by 2^16 rounded likewise
(R48), and t0 of the coarse path is the quotient of R167 rounded likewise. -/
def Obligations.ConversionsAreRoundedOnce : Prop :=
  (∀ (s : State) (a : Axis) (mc : Int),
    let c := s.calOf a
    let sum := c.scale * (mc - (c.refCount : Int)) + (match c.couplingSource with
      | none => 0
      | some b => c.couplingScale * (s.count b - ((s.calOf b).refCount : Int)))
    let q := s.jointExact a mc - c.homePosition
    2 * (q * 2 ^ 24 - sum) ≤ 2 ^ 24 ∧ -(2 ^ 24) ≤ 2 * (q * 2 ^ 24 - sum)
      ∧ (2 * (q * 2 ^ 24 - sum) = 2 ^ 24 ∨ 2 * (q * 2 ^ 24 - sum) = -(2 ^ 24) → q % 2 = 0))
  ∧ (∀ (s : State) (a : Axis),
    (s.evaluated a).reported =
      if (s.record a).state.framed = true
          ∧ (∀ b, (s.calOf a).couplingSource = some b → (s.record b).state.framed = true)
          ∧ -2147483647 ≤ s.jointExact a (s.count a) ∧ s.jointExact a (s.count a) ≤ 2147483647
      then some (s.jointExact a (s.count a)) else none)
  ∧ (∀ (s : State) (a : Axis) (fromSource : Bool),
    let e := s.evaluated a
    let t := s.evaluate fromSource a
    (e.beyond (s.calOf a) = true ↔ ∃ p, e.reported = some p ∧ (p < (s.calOf a).softLow ∨ (s.calOf a).softHigh < p))
    ∧ (t.record a).position = e.reported ∧ (t.record a).beyondLimit = e.beyond (s.calOf a)
    ∧ ((t.record a).sticky.arithOverflow = true ↔ (s.record a).sticky.arithOverflow = true ∨ s.overflows a))
  ∧ (∀ (c : AxisCal) (code : Nat),
    let sum := c.coarseGain * ((code : Int) - (c.coarseRef : Int))
    let q := coarseConvert c code - c.coarseHome
    2 * (q * 2 ^ 16 - sum) ≤ 2 ^ 16 ∧ -(2 ^ 16) ≤ 2 * (q * 2 ^ 16 - sum)
      ∧ (2 * (q * 2 ^ 16 - sum) = 2 ^ 16 ∨ 2 * (q * 2 ^ 16 - sum) = -(2 ^ 16) → q % 2 = 0))
  ∧ (∀ (s : State) (a : Axis) (coarse : Int),
    let c := s.calOf a
    let den := c.scale * (c.cpt : Int)
    let num := ((c.refCount : Int) - ((s.record a).fine : Int)) * c.scale
      + ((coarse - c.homePosition) * 2 ^ 24 - (match c.couplingSource with
        | none => 0
        | some b => c.couplingScale * (s.count b - ((s.calOf b).refCount : Int))))
    let t0 := s.coarseTurn a coarse
    c.scale ≠ 0 → 2 * (t0 * den - num).natAbs ≤ den.natAbs ∧ (2 * (t0 * den - num).natAbs = den.natAbs → t0 % 2 = 0))
end

