-- ==== Sys2Proof/Laws/State.lean ====
section
/-! SUPPORT. What each update of the state leaves in each field, and what the collections indexed by axis and by port read after an update. -/
-- The many small lemmas of this file are checked one after the other: side by side they would need more threads than the
-- memory limit of the check allows.
set_option Elab.async false

namespace Sys2Proof.Machine

/-! ### Collections -/

@[simp] theorem PerAxis.get_set_self {α : Type} (v : PerAxis α) (a : Axis) (x : α) : (v.set a x).get a = x := by
  cases a <;> rfl

theorem PerAxis.get_set_ne {α : Type} (v : PerAxis α) {a b : Axis} (x : α) (h : b ≠ a) : (v.set a x).get b = v.get b := by
  cases a <;> cases b <;> first | rfl | exact absurd rfl h

theorem PerAxis.get_set {α : Type} (v : PerAxis α) (a b : Axis) (x : α) :
    (v.set a x).get b = if b = a then x else v.get b := by
  split
  · rename_i h; rw [h, PerAxis.get_set_self]
  · rename_i h; exact PerAxis.get_set_ne v x h

@[simp] theorem PerAxis.get_of {α : Type} (f : Axis → α) (a : Axis) : (PerAxis.of f).get a = f a := by cases a <;> rfl

@[simp] theorem PerAxis.get_const {α : Type} (x : α) (a : Axis) : (PerAxis.const x).get a = x := by cases a <;> rfl

@[simp] theorem PerPort.get_set_self {α : Type} (v : PerPort α) (p : Port) (x : α) : (v.set p x).get p = x := by
  cases p <;> rfl

theorem PerPort.get_set_ne {α : Type} (v : PerPort α) {p q : Port} (x : α) (h : q ≠ p) : (v.set p x).get q = v.get q := by
  cases p <;> cases q <;> first | rfl | exact absurd rfl h

theorem PerPort.get_set {α : Type} (v : PerPort α) (p q : Port) (x : α) :
    (v.set p x).get q = if q = p then x else v.get q := by
  split
  · rename_i h; rw [h, PerPort.get_set_self]
  · rename_i h; exact PerPort.get_set_ne v x h

/-! ### setRecord -/

@[simp] theorem State.setRecord_supply (s : State) (a : Axis) (x : AxisRecord) : (s.setRecord a x).supply = s.supply := rfl
@[simp] theorem State.setRecord_resetInput (s : State) (a : Axis) (x : AxisRecord) : (s.setRecord a x).resetInput = s.resetInput := rfl
@[simp] theorem State.setRecord_now (s : State) (a : Axis) (x : AxisRecord) : (s.setRecord a x).now = s.now := rfl
@[simp] theorem State.setRecord_freeCount (s : State) (a : Axis) (x : AxisRecord) : (s.setRecord a x).freeCount = s.freeCount := rfl
@[simp] theorem State.setRecord_records (s : State) (a : Axis) (x : AxisRecord) : (s.setRecord a x).records = s.records.set a x := rfl
@[simp] theorem State.setRecord_sensors (s : State) (a : Axis) (x : AxisRecord) : (s.setRecord a x).sensors = s.sensors := rfl
@[simp] theorem State.setRecord_pollingSince (s : State) (a : Axis) (x : AxisRecord) : (s.setRecord a x).pollingSince = s.pollingSince := rfl
@[simp] theorem State.setRecord_parked (s : State) (a : Axis) (x : AxisRecord) : (s.setRecord a x).parked = s.parked := rfl
@[simp] theorem State.setRecord_crossCheckTimer (s : State) (a : Axis) (x : AxisRecord) : (s.setRecord a x).crossCheckTimer = s.crossCheckTimer := rfl
@[simp] theorem State.setRecord_cal (s : State) (a : Axis) (x : AxisRecord) : (s.setRecord a x).cal = s.cal := rfl
@[simp] theorem State.setRecord_authority (s : State) (a : Axis) (x : AxisRecord) : (s.setRecord a x).authority = s.authority := rfl
@[simp] theorem State.setRecord_recipes (s : State) (a : Axis) (x : AxisRecord) : (s.setRecord a x).recipes = s.recipes := rfl
@[simp] theorem State.setRecord_runs (s : State) (a : Axis) (x : AxisRecord) : (s.setRecord a x).runs = s.runs := rfl
@[simp] theorem State.setRecord_settleTimers (s : State) (a : Axis) (x : AxisRecord) : (s.setRecord a x).settleTimers = s.settleTimers := rfl
@[simp] theorem State.setRecord_lastRuns (s : State) (a : Axis) (x : AxisRecord) : (s.setRecord a x).lastRuns = s.lastRuns := rfl
@[simp] theorem State.setRecord_runIdCounter (s : State) (a : Axis) (x : AxisRecord) : (s.setRecord a x).runIdCounter = s.runIdCounter := rfl
@[simp] theorem State.setRecord_channel (s : State) (a : Axis) (x : AxisRecord) : (s.setRecord a x).channel = s.channel := rfl
@[simp] theorem State.setRecord_loads (s : State) (a : Axis) (x : AxisRecord) : (s.setRecord a x).loads = s.loads := rfl
@[simp] theorem State.setRecord_cont (s : State) (a : Axis) (x : AxisRecord) : (s.setRecord a x).cont = s.cont := rfl
@[simp] theorem State.setRecord_link (s : State) (a : Axis) (x : AxisRecord) : (s.setRecord a x).link = s.link := rfl
@[simp] theorem State.setRecord_planner (s : State) (a : Axis) (x : AxisRecord) : (s.setRecord a x).planner = s.planner := rfl
@[simp] theorem State.setRecord_ports (s : State) (a : Axis) (x : AxisRecord) : (s.setRecord a x).ports = s.ports := rfl
@[simp] theorem State.setRecord_retention (s : State) (a : Axis) (x : AxisRecord) : (s.setRecord a x).retention = s.retention := rfl
@[simp] theorem State.setRecord_outbox (s : State) (a : Axis) (x : AxisRecord) : (s.setRecord a x).outbox = s.outbox := rfl
@[simp] theorem State.setRecord_parkTestDue (s : State) (a : Axis) (x : AxisRecord) : (s.setRecord a x).parkTestDue = s.parkTestDue := rfl
@[simp] theorem State.setRecord_outdatedHere (s : State) (a : Axis) (x : AxisRecord) : (s.setRecord a x).outdatedHere = s.outdatedHere := rfl
@[simp] theorem State.setRecord_outdatedNow (s : State) (a : Axis) (x : AxisRecord) : (s.setRecord a x).outdatedNow = s.outdatedNow := rfl
@[simp] theorem State.setRecord_pending (s : State) (a : Axis) (x : AxisRecord) : (s.setRecord a x).pending = s.pending := rfl

/-! ### setSensor -/

@[simp] theorem State.setSensor_supply (s : State) (a : Axis) (x : SensorState) : (s.setSensor a x).supply = s.supply := rfl
@[simp] theorem State.setSensor_resetInput (s : State) (a : Axis) (x : SensorState) : (s.setSensor a x).resetInput = s.resetInput := rfl
@[simp] theorem State.setSensor_now (s : State) (a : Axis) (x : SensorState) : (s.setSensor a x).now = s.now := rfl
@[simp] theorem State.setSensor_freeCount (s : State) (a : Axis) (x : SensorState) : (s.setSensor a x).freeCount = s.freeCount := rfl
@[simp] theorem State.setSensor_records (s : State) (a : Axis) (x : SensorState) : (s.setSensor a x).records = s.records := rfl
@[simp] theorem State.setSensor_sensors (s : State) (a : Axis) (x : SensorState) : (s.setSensor a x).sensors = s.sensors.set a x := rfl
@[simp] theorem State.setSensor_pollingSince (s : State) (a : Axis) (x : SensorState) : (s.setSensor a x).pollingSince = s.pollingSince := rfl
@[simp] theorem State.setSensor_parked (s : State) (a : Axis) (x : SensorState) : (s.setSensor a x).parked = s.parked := rfl
@[simp] theorem State.setSensor_crossCheckTimer (s : State) (a : Axis) (x : SensorState) : (s.setSensor a x).crossCheckTimer = s.crossCheckTimer := rfl
@[simp] theorem State.setSensor_cal (s : State) (a : Axis) (x : SensorState) : (s.setSensor a x).cal = s.cal := rfl
@[simp] theorem State.setSensor_authority (s : State) (a : Axis) (x : SensorState) : (s.setSensor a x).authority = s.authority := rfl
@[simp] theorem State.setSensor_recipes (s : State) (a : Axis) (x : SensorState) : (s.setSensor a x).recipes = s.recipes := rfl
@[simp] theorem State.setSensor_runs (s : State) (a : Axis) (x : SensorState) : (s.setSensor a x).runs = s.runs := rfl
@[simp] theorem State.setSensor_settleTimers (s : State) (a : Axis) (x : SensorState) : (s.setSensor a x).settleTimers = s.settleTimers := rfl
@[simp] theorem State.setSensor_lastRuns (s : State) (a : Axis) (x : SensorState) : (s.setSensor a x).lastRuns = s.lastRuns := rfl
@[simp] theorem State.setSensor_runIdCounter (s : State) (a : Axis) (x : SensorState) : (s.setSensor a x).runIdCounter = s.runIdCounter := rfl
@[simp] theorem State.setSensor_channel (s : State) (a : Axis) (x : SensorState) : (s.setSensor a x).channel = s.channel := rfl
@[simp] theorem State.setSensor_loads (s : State) (a : Axis) (x : SensorState) : (s.setSensor a x).loads = s.loads := rfl
@[simp] theorem State.setSensor_cont (s : State) (a : Axis) (x : SensorState) : (s.setSensor a x).cont = s.cont := rfl
@[simp] theorem State.setSensor_link (s : State) (a : Axis) (x : SensorState) : (s.setSensor a x).link = s.link := rfl
@[simp] theorem State.setSensor_planner (s : State) (a : Axis) (x : SensorState) : (s.setSensor a x).planner = s.planner := rfl
@[simp] theorem State.setSensor_ports (s : State) (a : Axis) (x : SensorState) : (s.setSensor a x).ports = s.ports := rfl
@[simp] theorem State.setSensor_retention (s : State) (a : Axis) (x : SensorState) : (s.setSensor a x).retention = s.retention := rfl
@[simp] theorem State.setSensor_outbox (s : State) (a : Axis) (x : SensorState) : (s.setSensor a x).outbox = s.outbox := rfl
@[simp] theorem State.setSensor_parkTestDue (s : State) (a : Axis) (x : SensorState) : (s.setSensor a x).parkTestDue = s.parkTestDue := rfl
@[simp] theorem State.setSensor_outdatedHere (s : State) (a : Axis) (x : SensorState) : (s.setSensor a x).outdatedHere = s.outdatedHere := rfl
@[simp] theorem State.setSensor_outdatedNow (s : State) (a : Axis) (x : SensorState) : (s.setSensor a x).outdatedNow = s.outdatedNow := rfl
@[simp] theorem State.setSensor_pending (s : State) (a : Axis) (x : SensorState) : (s.setSensor a x).pending = s.pending := rfl

/-! ### setLoad -/

@[simp] theorem State.setLoad_supply (s : State) (a : Axis) (x : LoadState) : (s.setLoad a x).supply = s.supply := rfl
@[simp] theorem State.setLoad_resetInput (s : State) (a : Axis) (x : LoadState) : (s.setLoad a x).resetInput = s.resetInput := rfl
@[simp] theorem State.setLoad_now (s : State) (a : Axis) (x : LoadState) : (s.setLoad a x).now = s.now := rfl
@[simp] theorem State.setLoad_freeCount (s : State) (a : Axis) (x : LoadState) : (s.setLoad a x).freeCount = s.freeCount := rfl
@[simp] theorem State.setLoad_records (s : State) (a : Axis) (x : LoadState) : (s.setLoad a x).records = s.records := rfl
@[simp] theorem State.setLoad_sensors (s : State) (a : Axis) (x : LoadState) : (s.setLoad a x).sensors = s.sensors := rfl
@[simp] theorem State.setLoad_pollingSince (s : State) (a : Axis) (x : LoadState) : (s.setLoad a x).pollingSince = s.pollingSince := rfl
@[simp] theorem State.setLoad_parked (s : State) (a : Axis) (x : LoadState) : (s.setLoad a x).parked = s.parked := rfl
@[simp] theorem State.setLoad_crossCheckTimer (s : State) (a : Axis) (x : LoadState) : (s.setLoad a x).crossCheckTimer = s.crossCheckTimer := rfl
@[simp] theorem State.setLoad_cal (s : State) (a : Axis) (x : LoadState) : (s.setLoad a x).cal = s.cal := rfl
@[simp] theorem State.setLoad_authority (s : State) (a : Axis) (x : LoadState) : (s.setLoad a x).authority = s.authority := rfl
@[simp] theorem State.setLoad_recipes (s : State) (a : Axis) (x : LoadState) : (s.setLoad a x).recipes = s.recipes := rfl
@[simp] theorem State.setLoad_runs (s : State) (a : Axis) (x : LoadState) : (s.setLoad a x).runs = s.runs := rfl
@[simp] theorem State.setLoad_settleTimers (s : State) (a : Axis) (x : LoadState) : (s.setLoad a x).settleTimers = s.settleTimers := rfl
@[simp] theorem State.setLoad_lastRuns (s : State) (a : Axis) (x : LoadState) : (s.setLoad a x).lastRuns = s.lastRuns := rfl
@[simp] theorem State.setLoad_runIdCounter (s : State) (a : Axis) (x : LoadState) : (s.setLoad a x).runIdCounter = s.runIdCounter := rfl
@[simp] theorem State.setLoad_channel (s : State) (a : Axis) (x : LoadState) : (s.setLoad a x).channel = s.channel := rfl
@[simp] theorem State.setLoad_loads (s : State) (a : Axis) (x : LoadState) : (s.setLoad a x).loads = s.loads.set a x := rfl
@[simp] theorem State.setLoad_cont (s : State) (a : Axis) (x : LoadState) : (s.setLoad a x).cont = s.cont := rfl
@[simp] theorem State.setLoad_link (s : State) (a : Axis) (x : LoadState) : (s.setLoad a x).link = s.link := rfl
@[simp] theorem State.setLoad_planner (s : State) (a : Axis) (x : LoadState) : (s.setLoad a x).planner = s.planner := rfl
@[simp] theorem State.setLoad_ports (s : State) (a : Axis) (x : LoadState) : (s.setLoad a x).ports = s.ports := rfl
@[simp] theorem State.setLoad_retention (s : State) (a : Axis) (x : LoadState) : (s.setLoad a x).retention = s.retention := rfl
@[simp] theorem State.setLoad_outbox (s : State) (a : Axis) (x : LoadState) : (s.setLoad a x).outbox = s.outbox := rfl
@[simp] theorem State.setLoad_parkTestDue (s : State) (a : Axis) (x : LoadState) : (s.setLoad a x).parkTestDue = s.parkTestDue := rfl
@[simp] theorem State.setLoad_outdatedHere (s : State) (a : Axis) (x : LoadState) : (s.setLoad a x).outdatedHere = s.outdatedHere := rfl
@[simp] theorem State.setLoad_outdatedNow (s : State) (a : Axis) (x : LoadState) : (s.setLoad a x).outdatedNow = s.outdatedNow := rfl
@[simp] theorem State.setLoad_pending (s : State) (a : Axis) (x : LoadState) : (s.setLoad a x).pending = s.pending := rfl

/-! ### setAuth -/

@[simp] theorem State.setAuth_supply (s : State) (a : Axis) (x : AuthEntry) : (s.setAuth a x).supply = s.supply := rfl
@[simp] theorem State.setAuth_resetInput (s : State) (a : Axis) (x : AuthEntry) : (s.setAuth a x).resetInput = s.resetInput := rfl
@[simp] theorem State.setAuth_now (s : State) (a : Axis) (x : AuthEntry) : (s.setAuth a x).now = s.now := rfl
@[simp] theorem State.setAuth_freeCount (s : State) (a : Axis) (x : AuthEntry) : (s.setAuth a x).freeCount = s.freeCount := rfl
@[simp] theorem State.setAuth_records (s : State) (a : Axis) (x : AuthEntry) : (s.setAuth a x).records = s.records := rfl
@[simp] theorem State.setAuth_sensors (s : State) (a : Axis) (x : AuthEntry) : (s.setAuth a x).sensors = s.sensors := rfl
@[simp] theorem State.setAuth_pollingSince (s : State) (a : Axis) (x : AuthEntry) : (s.setAuth a x).pollingSince = s.pollingSince := rfl
@[simp] theorem State.setAuth_parked (s : State) (a : Axis) (x : AuthEntry) : (s.setAuth a x).parked = s.parked := rfl
@[simp] theorem State.setAuth_crossCheckTimer (s : State) (a : Axis) (x : AuthEntry) : (s.setAuth a x).crossCheckTimer = s.crossCheckTimer := rfl
@[simp] theorem State.setAuth_cal (s : State) (a : Axis) (x : AuthEntry) : (s.setAuth a x).cal = s.cal := rfl
@[simp] theorem State.setAuth_authority (s : State) (a : Axis) (x : AuthEntry) : (s.setAuth a x).authority = s.authority.set a x := rfl
@[simp] theorem State.setAuth_recipes (s : State) (a : Axis) (x : AuthEntry) : (s.setAuth a x).recipes = s.recipes := rfl
@[simp] theorem State.setAuth_runs (s : State) (a : Axis) (x : AuthEntry) : (s.setAuth a x).runs = s.runs := rfl
@[simp] theorem State.setAuth_settleTimers (s : State) (a : Axis) (x : AuthEntry) : (s.setAuth a x).settleTimers = s.settleTimers := rfl
@[simp] theorem State.setAuth_lastRuns (s : State) (a : Axis) (x : AuthEntry) : (s.setAuth a x).lastRuns = s.lastRuns := rfl
@[simp] theorem State.setAuth_runIdCounter (s : State) (a : Axis) (x : AuthEntry) : (s.setAuth a x).runIdCounter = s.runIdCounter := rfl
@[simp] theorem State.setAuth_channel (s : State) (a : Axis) (x : AuthEntry) : (s.setAuth a x).channel = s.channel := rfl
@[simp] theorem State.setAuth_loads (s : State) (a : Axis) (x : AuthEntry) : (s.setAuth a x).loads = s.loads := rfl
@[simp] theorem State.setAuth_cont (s : State) (a : Axis) (x : AuthEntry) : (s.setAuth a x).cont = s.cont := rfl
@[simp] theorem State.setAuth_link (s : State) (a : Axis) (x : AuthEntry) : (s.setAuth a x).link = s.link := rfl
@[simp] theorem State.setAuth_planner (s : State) (a : Axis) (x : AuthEntry) : (s.setAuth a x).planner = s.planner := rfl
@[simp] theorem State.setAuth_ports (s : State) (a : Axis) (x : AuthEntry) : (s.setAuth a x).ports = s.ports := rfl
@[simp] theorem State.setAuth_retention (s : State) (a : Axis) (x : AuthEntry) : (s.setAuth a x).retention = s.retention := rfl
@[simp] theorem State.setAuth_outbox (s : State) (a : Axis) (x : AuthEntry) : (s.setAuth a x).outbox = s.outbox := rfl
@[simp] theorem State.setAuth_parkTestDue (s : State) (a : Axis) (x : AuthEntry) : (s.setAuth a x).parkTestDue = s.parkTestDue := rfl
@[simp] theorem State.setAuth_outdatedHere (s : State) (a : Axis) (x : AuthEntry) : (s.setAuth a x).outdatedHere = s.outdatedHere := rfl
@[simp] theorem State.setAuth_outdatedNow (s : State) (a : Axis) (x : AuthEntry) : (s.setAuth a x).outdatedNow = s.outdatedNow := rfl
@[simp] theorem State.setAuth_pending (s : State) (a : Axis) (x : AuthEntry) : (s.setAuth a x).pending = s.pending := rfl

/-! ### setRun -/

@[simp] theorem State.setRun_supply (s : State) (a : Axis) (x : Option Run) : (s.setRun a x).supply = s.supply := rfl
@[simp] theorem State.setRun_resetInput (s : State) (a : Axis) (x : Option Run) : (s.setRun a x).resetInput = s.resetInput := rfl
@[simp] theorem State.setRun_now (s : State) (a : Axis) (x : Option Run) : (s.setRun a x).now = s.now := rfl
@[simp] theorem State.setRun_freeCount (s : State) (a : Axis) (x : Option Run) : (s.setRun a x).freeCount = s.freeCount := rfl
@[simp] theorem State.setRun_records (s : State) (a : Axis) (x : Option Run) : (s.setRun a x).records = s.records := rfl
@[simp] theorem State.setRun_sensors (s : State) (a : Axis) (x : Option Run) : (s.setRun a x).sensors = s.sensors := rfl
@[simp] theorem State.setRun_pollingSince (s : State) (a : Axis) (x : Option Run) : (s.setRun a x).pollingSince = s.pollingSince := rfl
@[simp] theorem State.setRun_parked (s : State) (a : Axis) (x : Option Run) : (s.setRun a x).parked = s.parked := rfl
@[simp] theorem State.setRun_crossCheckTimer (s : State) (a : Axis) (x : Option Run) : (s.setRun a x).crossCheckTimer = s.crossCheckTimer := rfl
@[simp] theorem State.setRun_cal (s : State) (a : Axis) (x : Option Run) : (s.setRun a x).cal = s.cal := rfl
@[simp] theorem State.setRun_authority (s : State) (a : Axis) (x : Option Run) : (s.setRun a x).authority = s.authority := rfl
@[simp] theorem State.setRun_recipes (s : State) (a : Axis) (x : Option Run) : (s.setRun a x).recipes = s.recipes := rfl
@[simp] theorem State.setRun_runs (s : State) (a : Axis) (x : Option Run) : (s.setRun a x).runs = s.runs.set a x := rfl
@[simp] theorem State.setRun_settleTimers (s : State) (a : Axis) (x : Option Run) : (s.setRun a x).settleTimers = s.settleTimers := rfl
@[simp] theorem State.setRun_lastRuns (s : State) (a : Axis) (x : Option Run) : (s.setRun a x).lastRuns = s.lastRuns := rfl
@[simp] theorem State.setRun_runIdCounter (s : State) (a : Axis) (x : Option Run) : (s.setRun a x).runIdCounter = s.runIdCounter := rfl
@[simp] theorem State.setRun_channel (s : State) (a : Axis) (x : Option Run) : (s.setRun a x).channel = s.channel := rfl
@[simp] theorem State.setRun_loads (s : State) (a : Axis) (x : Option Run) : (s.setRun a x).loads = s.loads := rfl
@[simp] theorem State.setRun_cont (s : State) (a : Axis) (x : Option Run) : (s.setRun a x).cont = s.cont := rfl
@[simp] theorem State.setRun_link (s : State) (a : Axis) (x : Option Run) : (s.setRun a x).link = s.link := rfl
@[simp] theorem State.setRun_planner (s : State) (a : Axis) (x : Option Run) : (s.setRun a x).planner = s.planner := rfl
@[simp] theorem State.setRun_ports (s : State) (a : Axis) (x : Option Run) : (s.setRun a x).ports = s.ports := rfl
@[simp] theorem State.setRun_retention (s : State) (a : Axis) (x : Option Run) : (s.setRun a x).retention = s.retention := rfl
@[simp] theorem State.setRun_outbox (s : State) (a : Axis) (x : Option Run) : (s.setRun a x).outbox = s.outbox := rfl
@[simp] theorem State.setRun_parkTestDue (s : State) (a : Axis) (x : Option Run) : (s.setRun a x).parkTestDue = s.parkTestDue := rfl
@[simp] theorem State.setRun_outdatedHere (s : State) (a : Axis) (x : Option Run) : (s.setRun a x).outdatedHere = s.outdatedHere := rfl
@[simp] theorem State.setRun_outdatedNow (s : State) (a : Axis) (x : Option Run) : (s.setRun a x).outdatedNow = s.outdatedNow := rfl
@[simp] theorem State.setRun_pending (s : State) (a : Axis) (x : Option Run) : (s.setRun a x).pending = s.pending := rfl

/-! ### setSettle -/

@[simp] theorem State.setSettle_supply (s : State) (a : Axis) (x : Timer) : (s.setSettle a x).supply = s.supply := rfl
@[simp] theorem State.setSettle_resetInput (s : State) (a : Axis) (x : Timer) : (s.setSettle a x).resetInput = s.resetInput := rfl
@[simp] theorem State.setSettle_now (s : State) (a : Axis) (x : Timer) : (s.setSettle a x).now = s.now := rfl
@[simp] theorem State.setSettle_freeCount (s : State) (a : Axis) (x : Timer) : (s.setSettle a x).freeCount = s.freeCount := rfl
@[simp] theorem State.setSettle_records (s : State) (a : Axis) (x : Timer) : (s.setSettle a x).records = s.records := rfl
@[simp] theorem State.setSettle_sensors (s : State) (a : Axis) (x : Timer) : (s.setSettle a x).sensors = s.sensors := rfl
@[simp] theorem State.setSettle_pollingSince (s : State) (a : Axis) (x : Timer) : (s.setSettle a x).pollingSince = s.pollingSince := rfl
@[simp] theorem State.setSettle_parked (s : State) (a : Axis) (x : Timer) : (s.setSettle a x).parked = s.parked := rfl
@[simp] theorem State.setSettle_crossCheckTimer (s : State) (a : Axis) (x : Timer) : (s.setSettle a x).crossCheckTimer = s.crossCheckTimer := rfl
@[simp] theorem State.setSettle_cal (s : State) (a : Axis) (x : Timer) : (s.setSettle a x).cal = s.cal := rfl
@[simp] theorem State.setSettle_authority (s : State) (a : Axis) (x : Timer) : (s.setSettle a x).authority = s.authority := rfl
@[simp] theorem State.setSettle_recipes (s : State) (a : Axis) (x : Timer) : (s.setSettle a x).recipes = s.recipes := rfl
@[simp] theorem State.setSettle_runs (s : State) (a : Axis) (x : Timer) : (s.setSettle a x).runs = s.runs := rfl
@[simp] theorem State.setSettle_settleTimers (s : State) (a : Axis) (x : Timer) : (s.setSettle a x).settleTimers = s.settleTimers.set a x := rfl
@[simp] theorem State.setSettle_lastRuns (s : State) (a : Axis) (x : Timer) : (s.setSettle a x).lastRuns = s.lastRuns := rfl
@[simp] theorem State.setSettle_runIdCounter (s : State) (a : Axis) (x : Timer) : (s.setSettle a x).runIdCounter = s.runIdCounter := rfl
@[simp] theorem State.setSettle_channel (s : State) (a : Axis) (x : Timer) : (s.setSettle a x).channel = s.channel := rfl
@[simp] theorem State.setSettle_loads (s : State) (a : Axis) (x : Timer) : (s.setSettle a x).loads = s.loads := rfl
@[simp] theorem State.setSettle_cont (s : State) (a : Axis) (x : Timer) : (s.setSettle a x).cont = s.cont := rfl
@[simp] theorem State.setSettle_link (s : State) (a : Axis) (x : Timer) : (s.setSettle a x).link = s.link := rfl
@[simp] theorem State.setSettle_planner (s : State) (a : Axis) (x : Timer) : (s.setSettle a x).planner = s.planner := rfl
@[simp] theorem State.setSettle_ports (s : State) (a : Axis) (x : Timer) : (s.setSettle a x).ports = s.ports := rfl
@[simp] theorem State.setSettle_retention (s : State) (a : Axis) (x : Timer) : (s.setSettle a x).retention = s.retention := rfl
@[simp] theorem State.setSettle_outbox (s : State) (a : Axis) (x : Timer) : (s.setSettle a x).outbox = s.outbox := rfl
@[simp] theorem State.setSettle_parkTestDue (s : State) (a : Axis) (x : Timer) : (s.setSettle a x).parkTestDue = s.parkTestDue := rfl
@[simp] theorem State.setSettle_outdatedHere (s : State) (a : Axis) (x : Timer) : (s.setSettle a x).outdatedHere = s.outdatedHere := rfl
@[simp] theorem State.setSettle_outdatedNow (s : State) (a : Axis) (x : Timer) : (s.setSettle a x).outdatedNow = s.outdatedNow := rfl
@[simp] theorem State.setSettle_pending (s : State) (a : Axis) (x : Timer) : (s.setSettle a x).pending = s.pending := rfl

/-! ### setLastRun -/

@[simp] theorem State.setLastRun_supply (s : State) (a : Axis) (x : Nat × RunResult) : (s.setLastRun a x).supply = s.supply := rfl
@[simp] theorem State.setLastRun_resetInput (s : State) (a : Axis) (x : Nat × RunResult) : (s.setLastRun a x).resetInput = s.resetInput := rfl
@[simp] theorem State.setLastRun_now (s : State) (a : Axis) (x : Nat × RunResult) : (s.setLastRun a x).now = s.now := rfl
@[simp] theorem State.setLastRun_freeCount (s : State) (a : Axis) (x : Nat × RunResult) : (s.setLastRun a x).freeCount = s.freeCount := rfl
@[simp] theorem State.setLastRun_records (s : State) (a : Axis) (x : Nat × RunResult) : (s.setLastRun a x).records = s.records := rfl
@[simp] theorem State.setLastRun_sensors (s : State) (a : Axis) (x : Nat × RunResult) : (s.setLastRun a x).sensors = s.sensors := rfl
@[simp] theorem State.setLastRun_pollingSince (s : State) (a : Axis) (x : Nat × RunResult) : (s.setLastRun a x).pollingSince = s.pollingSince := rfl
@[simp] theorem State.setLastRun_parked (s : State) (a : Axis) (x : Nat × RunResult) : (s.setLastRun a x).parked = s.parked := rfl
@[simp] theorem State.setLastRun_crossCheckTimer (s : State) (a : Axis) (x : Nat × RunResult) : (s.setLastRun a x).crossCheckTimer = s.crossCheckTimer := rfl
@[simp] theorem State.setLastRun_cal (s : State) (a : Axis) (x : Nat × RunResult) : (s.setLastRun a x).cal = s.cal := rfl
@[simp] theorem State.setLastRun_authority (s : State) (a : Axis) (x : Nat × RunResult) : (s.setLastRun a x).authority = s.authority := rfl
@[simp] theorem State.setLastRun_recipes (s : State) (a : Axis) (x : Nat × RunResult) : (s.setLastRun a x).recipes = s.recipes := rfl
@[simp] theorem State.setLastRun_runs (s : State) (a : Axis) (x : Nat × RunResult) : (s.setLastRun a x).runs = s.runs := rfl
@[simp] theorem State.setLastRun_settleTimers (s : State) (a : Axis) (x : Nat × RunResult) : (s.setLastRun a x).settleTimers = s.settleTimers := rfl
@[simp] theorem State.setLastRun_lastRuns (s : State) (a : Axis) (x : Nat × RunResult) : (s.setLastRun a x).lastRuns = s.lastRuns.set a (some x) := rfl
@[simp] theorem State.setLastRun_runIdCounter (s : State) (a : Axis) (x : Nat × RunResult) : (s.setLastRun a x).runIdCounter = s.runIdCounter := rfl
@[simp] theorem State.setLastRun_channel (s : State) (a : Axis) (x : Nat × RunResult) : (s.setLastRun a x).channel = s.channel := rfl
@[simp] theorem State.setLastRun_loads (s : State) (a : Axis) (x : Nat × RunResult) : (s.setLastRun a x).loads = s.loads := rfl
@[simp] theorem State.setLastRun_cont (s : State) (a : Axis) (x : Nat × RunResult) : (s.setLastRun a x).cont = s.cont := rfl
@[simp] theorem State.setLastRun_link (s : State) (a : Axis) (x : Nat × RunResult) : (s.setLastRun a x).link = s.link := rfl
@[simp] theorem State.setLastRun_planner (s : State) (a : Axis) (x : Nat × RunResult) : (s.setLastRun a x).planner = s.planner := rfl
@[simp] theorem State.setLastRun_ports (s : State) (a : Axis) (x : Nat × RunResult) : (s.setLastRun a x).ports = s.ports := rfl
@[simp] theorem State.setLastRun_retention (s : State) (a : Axis) (x : Nat × RunResult) : (s.setLastRun a x).retention = s.retention := rfl
@[simp] theorem State.setLastRun_outbox (s : State) (a : Axis) (x : Nat × RunResult) : (s.setLastRun a x).outbox = s.outbox := rfl
@[simp] theorem State.setLastRun_parkTestDue (s : State) (a : Axis) (x : Nat × RunResult) : (s.setLastRun a x).parkTestDue = s.parkTestDue := rfl
@[simp] theorem State.setLastRun_outdatedHere (s : State) (a : Axis) (x : Nat × RunResult) : (s.setLastRun a x).outdatedHere = s.outdatedHere := rfl
@[simp] theorem State.setLastRun_outdatedNow (s : State) (a : Axis) (x : Nat × RunResult) : (s.setLastRun a x).outdatedNow = s.outdatedNow := rfl
@[simp] theorem State.setLastRun_pending (s : State) (a : Axis) (x : Nat × RunResult) : (s.setLastRun a x).pending = s.pending := rfl

/-! ### setChannel -/

@[simp] theorem State.setChannel_supply (s : State) (x : MoveChannel) : (s.setChannel x).supply = s.supply := rfl
@[simp] theorem State.setChannel_resetInput (s : State) (x : MoveChannel) : (s.setChannel x).resetInput = s.resetInput := rfl
@[simp] theorem State.setChannel_now (s : State) (x : MoveChannel) : (s.setChannel x).now = s.now := rfl
@[simp] theorem State.setChannel_freeCount (s : State) (x : MoveChannel) : (s.setChannel x).freeCount = s.freeCount := rfl
@[simp] theorem State.setChannel_records (s : State) (x : MoveChannel) : (s.setChannel x).records = s.records := rfl
@[simp] theorem State.setChannel_sensors (s : State) (x : MoveChannel) : (s.setChannel x).sensors = s.sensors := rfl
@[simp] theorem State.setChannel_pollingSince (s : State) (x : MoveChannel) : (s.setChannel x).pollingSince = s.pollingSince := rfl
@[simp] theorem State.setChannel_parked (s : State) (x : MoveChannel) : (s.setChannel x).parked = s.parked := rfl
@[simp] theorem State.setChannel_crossCheckTimer (s : State) (x : MoveChannel) : (s.setChannel x).crossCheckTimer = s.crossCheckTimer := rfl
@[simp] theorem State.setChannel_cal (s : State) (x : MoveChannel) : (s.setChannel x).cal = s.cal := rfl
@[simp] theorem State.setChannel_authority (s : State) (x : MoveChannel) : (s.setChannel x).authority = s.authority := rfl
@[simp] theorem State.setChannel_recipes (s : State) (x : MoveChannel) : (s.setChannel x).recipes = s.recipes := rfl
@[simp] theorem State.setChannel_runs (s : State) (x : MoveChannel) : (s.setChannel x).runs = s.runs := rfl
@[simp] theorem State.setChannel_settleTimers (s : State) (x : MoveChannel) : (s.setChannel x).settleTimers = s.settleTimers := rfl
@[simp] theorem State.setChannel_lastRuns (s : State) (x : MoveChannel) : (s.setChannel x).lastRuns = s.lastRuns := rfl
@[simp] theorem State.setChannel_runIdCounter (s : State) (x : MoveChannel) : (s.setChannel x).runIdCounter = s.runIdCounter := rfl
@[simp] theorem State.setChannel_channel (s : State) (x : MoveChannel) : (s.setChannel x).channel = x := rfl
@[simp] theorem State.setChannel_loads (s : State) (x : MoveChannel) : (s.setChannel x).loads = s.loads := rfl
@[simp] theorem State.setChannel_cont (s : State) (x : MoveChannel) : (s.setChannel x).cont = s.cont := rfl
@[simp] theorem State.setChannel_link (s : State) (x : MoveChannel) : (s.setChannel x).link = s.link := rfl
@[simp] theorem State.setChannel_planner (s : State) (x : MoveChannel) : (s.setChannel x).planner = s.planner := rfl
@[simp] theorem State.setChannel_ports (s : State) (x : MoveChannel) : (s.setChannel x).ports = s.ports := rfl
@[simp] theorem State.setChannel_retention (s : State) (x : MoveChannel) : (s.setChannel x).retention = s.retention := rfl
@[simp] theorem State.setChannel_outbox (s : State) (x : MoveChannel) : (s.setChannel x).outbox = s.outbox := rfl
@[simp] theorem State.setChannel_parkTestDue (s : State) (x : MoveChannel) : (s.setChannel x).parkTestDue = s.parkTestDue := rfl
@[simp] theorem State.setChannel_outdatedHere (s : State) (x : MoveChannel) : (s.setChannel x).outdatedHere = s.outdatedHere := rfl
@[simp] theorem State.setChannel_outdatedNow (s : State) (x : MoveChannel) : (s.setChannel x).outdatedNow = s.outdatedNow := rfl
@[simp] theorem State.setChannel_pending (s : State) (x : MoveChannel) : (s.setChannel x).pending = s.pending := rfl

/-! ### setCont -/

@[simp] theorem State.setCont_supply (s : State) (x : Continuity) : (s.setCont x).supply = s.supply := rfl
@[simp] theorem State.setCont_resetInput (s : State) (x : Continuity) : (s.setCont x).resetInput = s.resetInput := rfl
@[simp] theorem State.setCont_now (s : State) (x : Continuity) : (s.setCont x).now = s.now := rfl
@[simp] theorem State.setCont_freeCount (s : State) (x : Continuity) : (s.setCont x).freeCount = s.freeCount := rfl
@[simp] theorem State.setCont_records (s : State) (x : Continuity) : (s.setCont x).records = s.records := rfl
@[simp] theorem State.setCont_sensors (s : State) (x : Continuity) : (s.setCont x).sensors = s.sensors := rfl
@[simp] theorem State.setCont_pollingSince (s : State) (x : Continuity) : (s.setCont x).pollingSince = s.pollingSince := rfl
@[simp] theorem State.setCont_parked (s : State) (x : Continuity) : (s.setCont x).parked = s.parked := rfl
@[simp] theorem State.setCont_crossCheckTimer (s : State) (x : Continuity) : (s.setCont x).crossCheckTimer = s.crossCheckTimer := rfl
@[simp] theorem State.setCont_cal (s : State) (x : Continuity) : (s.setCont x).cal = s.cal := rfl
@[simp] theorem State.setCont_authority (s : State) (x : Continuity) : (s.setCont x).authority = s.authority := rfl
@[simp] theorem State.setCont_recipes (s : State) (x : Continuity) : (s.setCont x).recipes = s.recipes := rfl
@[simp] theorem State.setCont_runs (s : State) (x : Continuity) : (s.setCont x).runs = s.runs := rfl
@[simp] theorem State.setCont_settleTimers (s : State) (x : Continuity) : (s.setCont x).settleTimers = s.settleTimers := rfl
@[simp] theorem State.setCont_lastRuns (s : State) (x : Continuity) : (s.setCont x).lastRuns = s.lastRuns := rfl
@[simp] theorem State.setCont_runIdCounter (s : State) (x : Continuity) : (s.setCont x).runIdCounter = s.runIdCounter := rfl
@[simp] theorem State.setCont_channel (s : State) (x : Continuity) : (s.setCont x).channel = s.channel := rfl
@[simp] theorem State.setCont_loads (s : State) (x : Continuity) : (s.setCont x).loads = s.loads := rfl
@[simp] theorem State.setCont_cont (s : State) (x : Continuity) : (s.setCont x).cont = x := rfl
@[simp] theorem State.setCont_link (s : State) (x : Continuity) : (s.setCont x).link = s.link := rfl
@[simp] theorem State.setCont_planner (s : State) (x : Continuity) : (s.setCont x).planner = s.planner := rfl
@[simp] theorem State.setCont_ports (s : State) (x : Continuity) : (s.setCont x).ports = s.ports := rfl
@[simp] theorem State.setCont_retention (s : State) (x : Continuity) : (s.setCont x).retention = s.retention := rfl
@[simp] theorem State.setCont_outbox (s : State) (x : Continuity) : (s.setCont x).outbox = s.outbox := rfl
@[simp] theorem State.setCont_parkTestDue (s : State) (x : Continuity) : (s.setCont x).parkTestDue = s.parkTestDue := rfl
@[simp] theorem State.setCont_outdatedHere (s : State) (x : Continuity) : (s.setCont x).outdatedHere = s.outdatedHere := rfl
@[simp] theorem State.setCont_outdatedNow (s : State) (x : Continuity) : (s.setCont x).outdatedNow = s.outdatedNow := rfl
@[simp] theorem State.setCont_pending (s : State) (x : Continuity) : (s.setCont x).pending = s.pending := rfl

/-! ### setPlanner -/

@[simp] theorem State.setPlanner_supply (s : State) (x : Planner) : (s.setPlanner x).supply = s.supply := rfl
@[simp] theorem State.setPlanner_resetInput (s : State) (x : Planner) : (s.setPlanner x).resetInput = s.resetInput := rfl
@[simp] theorem State.setPlanner_now (s : State) (x : Planner) : (s.setPlanner x).now = s.now := rfl
@[simp] theorem State.setPlanner_freeCount (s : State) (x : Planner) : (s.setPlanner x).freeCount = s.freeCount := rfl
@[simp] theorem State.setPlanner_records (s : State) (x : Planner) : (s.setPlanner x).records = s.records := rfl
@[simp] theorem State.setPlanner_sensors (s : State) (x : Planner) : (s.setPlanner x).sensors = s.sensors := rfl
@[simp] theorem State.setPlanner_pollingSince (s : State) (x : Planner) : (s.setPlanner x).pollingSince = s.pollingSince := rfl
@[simp] theorem State.setPlanner_parked (s : State) (x : Planner) : (s.setPlanner x).parked = s.parked := rfl
@[simp] theorem State.setPlanner_crossCheckTimer (s : State) (x : Planner) : (s.setPlanner x).crossCheckTimer = s.crossCheckTimer := rfl
@[simp] theorem State.setPlanner_cal (s : State) (x : Planner) : (s.setPlanner x).cal = s.cal := rfl
@[simp] theorem State.setPlanner_authority (s : State) (x : Planner) : (s.setPlanner x).authority = s.authority := rfl
@[simp] theorem State.setPlanner_recipes (s : State) (x : Planner) : (s.setPlanner x).recipes = s.recipes := rfl
@[simp] theorem State.setPlanner_runs (s : State) (x : Planner) : (s.setPlanner x).runs = s.runs := rfl
@[simp] theorem State.setPlanner_settleTimers (s : State) (x : Planner) : (s.setPlanner x).settleTimers = s.settleTimers := rfl
@[simp] theorem State.setPlanner_lastRuns (s : State) (x : Planner) : (s.setPlanner x).lastRuns = s.lastRuns := rfl
@[simp] theorem State.setPlanner_runIdCounter (s : State) (x : Planner) : (s.setPlanner x).runIdCounter = s.runIdCounter := rfl
@[simp] theorem State.setPlanner_channel (s : State) (x : Planner) : (s.setPlanner x).channel = s.channel := rfl
@[simp] theorem State.setPlanner_loads (s : State) (x : Planner) : (s.setPlanner x).loads = s.loads := rfl
@[simp] theorem State.setPlanner_cont (s : State) (x : Planner) : (s.setPlanner x).cont = s.cont := rfl
@[simp] theorem State.setPlanner_link (s : State) (x : Planner) : (s.setPlanner x).link = s.link := rfl
@[simp] theorem State.setPlanner_planner (s : State) (x : Planner) : (s.setPlanner x).planner = x := rfl
@[simp] theorem State.setPlanner_ports (s : State) (x : Planner) : (s.setPlanner x).ports = s.ports := rfl
@[simp] theorem State.setPlanner_retention (s : State) (x : Planner) : (s.setPlanner x).retention = s.retention := rfl
@[simp] theorem State.setPlanner_outbox (s : State) (x : Planner) : (s.setPlanner x).outbox = s.outbox := rfl
@[simp] theorem State.setPlanner_parkTestDue (s : State) (x : Planner) : (s.setPlanner x).parkTestDue = s.parkTestDue := rfl
@[simp] theorem State.setPlanner_outdatedHere (s : State) (x : Planner) : (s.setPlanner x).outdatedHere = s.outdatedHere := rfl
@[simp] theorem State.setPlanner_outdatedNow (s : State) (x : Planner) : (s.setPlanner x).outdatedNow = s.outdatedNow := rfl
@[simp] theorem State.setPlanner_pending (s : State) (x : Planner) : (s.setPlanner x).pending = s.pending := rfl

/-! ### setCal -/

@[simp] theorem State.setCal_supply (s : State) (x : CalStore) : (s.setCal x).supply = s.supply := rfl
@[simp] theorem State.setCal_resetInput (s : State) (x : CalStore) : (s.setCal x).resetInput = s.resetInput := rfl
@[simp] theorem State.setCal_now (s : State) (x : CalStore) : (s.setCal x).now = s.now := rfl
@[simp] theorem State.setCal_freeCount (s : State) (x : CalStore) : (s.setCal x).freeCount = s.freeCount := rfl
@[simp] theorem State.setCal_records (s : State) (x : CalStore) : (s.setCal x).records = s.records := rfl
@[simp] theorem State.setCal_sensors (s : State) (x : CalStore) : (s.setCal x).sensors = s.sensors := rfl
@[simp] theorem State.setCal_pollingSince (s : State) (x : CalStore) : (s.setCal x).pollingSince = s.pollingSince := rfl
@[simp] theorem State.setCal_parked (s : State) (x : CalStore) : (s.setCal x).parked = s.parked := rfl
@[simp] theorem State.setCal_crossCheckTimer (s : State) (x : CalStore) : (s.setCal x).crossCheckTimer = s.crossCheckTimer := rfl
@[simp] theorem State.setCal_cal (s : State) (x : CalStore) : (s.setCal x).cal = x := rfl
@[simp] theorem State.setCal_authority (s : State) (x : CalStore) : (s.setCal x).authority = s.authority := rfl
@[simp] theorem State.setCal_recipes (s : State) (x : CalStore) : (s.setCal x).recipes = s.recipes := rfl
@[simp] theorem State.setCal_runs (s : State) (x : CalStore) : (s.setCal x).runs = s.runs := rfl
@[simp] theorem State.setCal_settleTimers (s : State) (x : CalStore) : (s.setCal x).settleTimers = s.settleTimers := rfl
@[simp] theorem State.setCal_lastRuns (s : State) (x : CalStore) : (s.setCal x).lastRuns = s.lastRuns := rfl
@[simp] theorem State.setCal_runIdCounter (s : State) (x : CalStore) : (s.setCal x).runIdCounter = s.runIdCounter := rfl
@[simp] theorem State.setCal_channel (s : State) (x : CalStore) : (s.setCal x).channel = s.channel := rfl
@[simp] theorem State.setCal_loads (s : State) (x : CalStore) : (s.setCal x).loads = s.loads := rfl
@[simp] theorem State.setCal_cont (s : State) (x : CalStore) : (s.setCal x).cont = s.cont := rfl
@[simp] theorem State.setCal_link (s : State) (x : CalStore) : (s.setCal x).link = s.link := rfl
@[simp] theorem State.setCal_planner (s : State) (x : CalStore) : (s.setCal x).planner = s.planner := rfl
@[simp] theorem State.setCal_ports (s : State) (x : CalStore) : (s.setCal x).ports = s.ports := rfl
@[simp] theorem State.setCal_retention (s : State) (x : CalStore) : (s.setCal x).retention = s.retention := rfl
@[simp] theorem State.setCal_outbox (s : State) (x : CalStore) : (s.setCal x).outbox = s.outbox := rfl
@[simp] theorem State.setCal_parkTestDue (s : State) (x : CalStore) : (s.setCal x).parkTestDue = s.parkTestDue := rfl
@[simp] theorem State.setCal_outdatedHere (s : State) (x : CalStore) : (s.setCal x).outdatedHere = s.outdatedHere := rfl
@[simp] theorem State.setCal_outdatedNow (s : State) (x : CalStore) : (s.setCal x).outdatedNow = s.outdatedNow := rfl
@[simp] theorem State.setCal_pending (s : State) (x : CalStore) : (s.setCal x).pending = s.pending := rfl

/-! ### setRecipes -/

@[simp] theorem State.setRecipes_supply (s : State) (x : RecipeStore) : (s.setRecipes x).supply = s.supply := rfl
@[simp] theorem State.setRecipes_resetInput (s : State) (x : RecipeStore) : (s.setRecipes x).resetInput = s.resetInput := rfl
@[simp] theorem State.setRecipes_now (s : State) (x : RecipeStore) : (s.setRecipes x).now = s.now := rfl
@[simp] theorem State.setRecipes_freeCount (s : State) (x : RecipeStore) : (s.setRecipes x).freeCount = s.freeCount := rfl
@[simp] theorem State.setRecipes_records (s : State) (x : RecipeStore) : (s.setRecipes x).records = s.records := rfl
@[simp] theorem State.setRecipes_sensors (s : State) (x : RecipeStore) : (s.setRecipes x).sensors = s.sensors := rfl
@[simp] theorem State.setRecipes_pollingSince (s : State) (x : RecipeStore) : (s.setRecipes x).pollingSince = s.pollingSince := rfl
@[simp] theorem State.setRecipes_parked (s : State) (x : RecipeStore) : (s.setRecipes x).parked = s.parked := rfl
@[simp] theorem State.setRecipes_crossCheckTimer (s : State) (x : RecipeStore) : (s.setRecipes x).crossCheckTimer = s.crossCheckTimer := rfl
@[simp] theorem State.setRecipes_cal (s : State) (x : RecipeStore) : (s.setRecipes x).cal = s.cal := rfl
@[simp] theorem State.setRecipes_authority (s : State) (x : RecipeStore) : (s.setRecipes x).authority = s.authority := rfl
@[simp] theorem State.setRecipes_recipes (s : State) (x : RecipeStore) : (s.setRecipes x).recipes = x := rfl
@[simp] theorem State.setRecipes_runs (s : State) (x : RecipeStore) : (s.setRecipes x).runs = s.runs := rfl
@[simp] theorem State.setRecipes_settleTimers (s : State) (x : RecipeStore) : (s.setRecipes x).settleTimers = s.settleTimers := rfl
@[simp] theorem State.setRecipes_lastRuns (s : State) (x : RecipeStore) : (s.setRecipes x).lastRuns = s.lastRuns := rfl
@[simp] theorem State.setRecipes_runIdCounter (s : State) (x : RecipeStore) : (s.setRecipes x).runIdCounter = s.runIdCounter := rfl
@[simp] theorem State.setRecipes_channel (s : State) (x : RecipeStore) : (s.setRecipes x).channel = s.channel := rfl
@[simp] theorem State.setRecipes_loads (s : State) (x : RecipeStore) : (s.setRecipes x).loads = s.loads := rfl
@[simp] theorem State.setRecipes_cont (s : State) (x : RecipeStore) : (s.setRecipes x).cont = s.cont := rfl
@[simp] theorem State.setRecipes_link (s : State) (x : RecipeStore) : (s.setRecipes x).link = s.link := rfl
@[simp] theorem State.setRecipes_planner (s : State) (x : RecipeStore) : (s.setRecipes x).planner = s.planner := rfl
@[simp] theorem State.setRecipes_ports (s : State) (x : RecipeStore) : (s.setRecipes x).ports = s.ports := rfl
@[simp] theorem State.setRecipes_retention (s : State) (x : RecipeStore) : (s.setRecipes x).retention = s.retention := rfl
@[simp] theorem State.setRecipes_outbox (s : State) (x : RecipeStore) : (s.setRecipes x).outbox = s.outbox := rfl
@[simp] theorem State.setRecipes_parkTestDue (s : State) (x : RecipeStore) : (s.setRecipes x).parkTestDue = s.parkTestDue := rfl
@[simp] theorem State.setRecipes_outdatedHere (s : State) (x : RecipeStore) : (s.setRecipes x).outdatedHere = s.outdatedHere := rfl
@[simp] theorem State.setRecipes_outdatedNow (s : State) (x : RecipeStore) : (s.setRecipes x).outdatedNow = s.outdatedNow := rfl
@[simp] theorem State.setRecipes_pending (s : State) (x : RecipeStore) : (s.setRecipes x).pending = s.pending := rfl

/-! ### setLink -/

@[simp] theorem State.setLink_supply (s : State) (x : Option LinkByte) : (s.setLink x).supply = s.supply := rfl
@[simp] theorem State.setLink_resetInput (s : State) (x : Option LinkByte) : (s.setLink x).resetInput = s.resetInput := rfl
@[simp] theorem State.setLink_now (s : State) (x : Option LinkByte) : (s.setLink x).now = s.now := rfl
@[simp] theorem State.setLink_freeCount (s : State) (x : Option LinkByte) : (s.setLink x).freeCount = s.freeCount := rfl
@[simp] theorem State.setLink_records (s : State) (x : Option LinkByte) : (s.setLink x).records = s.records := rfl
@[simp] theorem State.setLink_sensors (s : State) (x : Option LinkByte) : (s.setLink x).sensors = s.sensors := rfl
@[simp] theorem State.setLink_pollingSince (s : State) (x : Option LinkByte) : (s.setLink x).pollingSince = s.pollingSince := rfl
@[simp] theorem State.setLink_parked (s : State) (x : Option LinkByte) : (s.setLink x).parked = s.parked := rfl
@[simp] theorem State.setLink_crossCheckTimer (s : State) (x : Option LinkByte) : (s.setLink x).crossCheckTimer = s.crossCheckTimer := rfl
@[simp] theorem State.setLink_cal (s : State) (x : Option LinkByte) : (s.setLink x).cal = s.cal := rfl
@[simp] theorem State.setLink_authority (s : State) (x : Option LinkByte) : (s.setLink x).authority = s.authority := rfl
@[simp] theorem State.setLink_recipes (s : State) (x : Option LinkByte) : (s.setLink x).recipes = s.recipes := rfl
@[simp] theorem State.setLink_runs (s : State) (x : Option LinkByte) : (s.setLink x).runs = s.runs := rfl
@[simp] theorem State.setLink_settleTimers (s : State) (x : Option LinkByte) : (s.setLink x).settleTimers = s.settleTimers := rfl
@[simp] theorem State.setLink_lastRuns (s : State) (x : Option LinkByte) : (s.setLink x).lastRuns = s.lastRuns := rfl
@[simp] theorem State.setLink_runIdCounter (s : State) (x : Option LinkByte) : (s.setLink x).runIdCounter = s.runIdCounter := rfl
@[simp] theorem State.setLink_channel (s : State) (x : Option LinkByte) : (s.setLink x).channel = s.channel := rfl
@[simp] theorem State.setLink_loads (s : State) (x : Option LinkByte) : (s.setLink x).loads = s.loads := rfl
@[simp] theorem State.setLink_cont (s : State) (x : Option LinkByte) : (s.setLink x).cont = s.cont := rfl
@[simp] theorem State.setLink_link (s : State) (x : Option LinkByte) : (s.setLink x).link = x := rfl
@[simp] theorem State.setLink_planner (s : State) (x : Option LinkByte) : (s.setLink x).planner = s.planner := rfl
@[simp] theorem State.setLink_ports (s : State) (x : Option LinkByte) : (s.setLink x).ports = s.ports := rfl
@[simp] theorem State.setLink_retention (s : State) (x : Option LinkByte) : (s.setLink x).retention = s.retention := rfl
@[simp] theorem State.setLink_outbox (s : State) (x : Option LinkByte) : (s.setLink x).outbox = s.outbox := rfl
@[simp] theorem State.setLink_parkTestDue (s : State) (x : Option LinkByte) : (s.setLink x).parkTestDue = s.parkTestDue := rfl
@[simp] theorem State.setLink_outdatedHere (s : State) (x : Option LinkByte) : (s.setLink x).outdatedHere = s.outdatedHere := rfl
@[simp] theorem State.setLink_outdatedNow (s : State) (x : Option LinkByte) : (s.setLink x).outdatedNow = s.outdatedNow := rfl
@[simp] theorem State.setLink_pending (s : State) (x : Option LinkByte) : (s.setLink x).pending = s.pending := rfl

/-! ### setPort -/

@[simp] theorem State.setPort_supply (s : State) (p : Port) (x : PortState) : (s.setPort p x).supply = s.supply := rfl
@[simp] theorem State.setPort_resetInput (s : State) (p : Port) (x : PortState) : (s.setPort p x).resetInput = s.resetInput := rfl
@[simp] theorem State.setPort_now (s : State) (p : Port) (x : PortState) : (s.setPort p x).now = s.now := rfl
@[simp] theorem State.setPort_freeCount (s : State) (p : Port) (x : PortState) : (s.setPort p x).freeCount = s.freeCount := rfl
@[simp] theorem State.setPort_records (s : State) (p : Port) (x : PortState) : (s.setPort p x).records = s.records := rfl
@[simp] theorem State.setPort_sensors (s : State) (p : Port) (x : PortState) : (s.setPort p x).sensors = s.sensors := rfl
@[simp] theorem State.setPort_pollingSince (s : State) (p : Port) (x : PortState) : (s.setPort p x).pollingSince = s.pollingSince := rfl
@[simp] theorem State.setPort_parked (s : State) (p : Port) (x : PortState) : (s.setPort p x).parked = s.parked := rfl
@[simp] theorem State.setPort_crossCheckTimer (s : State) (p : Port) (x : PortState) : (s.setPort p x).crossCheckTimer = s.crossCheckTimer := rfl
@[simp] theorem State.setPort_cal (s : State) (p : Port) (x : PortState) : (s.setPort p x).cal = s.cal := rfl
@[simp] theorem State.setPort_authority (s : State) (p : Port) (x : PortState) : (s.setPort p x).authority = s.authority := rfl
@[simp] theorem State.setPort_recipes (s : State) (p : Port) (x : PortState) : (s.setPort p x).recipes = s.recipes := rfl
@[simp] theorem State.setPort_runs (s : State) (p : Port) (x : PortState) : (s.setPort p x).runs = s.runs := rfl
@[simp] theorem State.setPort_settleTimers (s : State) (p : Port) (x : PortState) : (s.setPort p x).settleTimers = s.settleTimers := rfl
@[simp] theorem State.setPort_lastRuns (s : State) (p : Port) (x : PortState) : (s.setPort p x).lastRuns = s.lastRuns := rfl
@[simp] theorem State.setPort_runIdCounter (s : State) (p : Port) (x : PortState) : (s.setPort p x).runIdCounter = s.runIdCounter := rfl
@[simp] theorem State.setPort_channel (s : State) (p : Port) (x : PortState) : (s.setPort p x).channel = s.channel := rfl
@[simp] theorem State.setPort_loads (s : State) (p : Port) (x : PortState) : (s.setPort p x).loads = s.loads := rfl
@[simp] theorem State.setPort_cont (s : State) (p : Port) (x : PortState) : (s.setPort p x).cont = s.cont := rfl
@[simp] theorem State.setPort_link (s : State) (p : Port) (x : PortState) : (s.setPort p x).link = s.link := rfl
@[simp] theorem State.setPort_planner (s : State) (p : Port) (x : PortState) : (s.setPort p x).planner = s.planner := rfl
@[simp] theorem State.setPort_ports (s : State) (p : Port) (x : PortState) : (s.setPort p x).ports = s.ports.set p x := rfl
@[simp] theorem State.setPort_retention (s : State) (p : Port) (x : PortState) : (s.setPort p x).retention = s.retention := rfl
@[simp] theorem State.setPort_outbox (s : State) (p : Port) (x : PortState) : (s.setPort p x).outbox = s.outbox := rfl
@[simp] theorem State.setPort_parkTestDue (s : State) (p : Port) (x : PortState) : (s.setPort p x).parkTestDue = s.parkTestDue := rfl
@[simp] theorem State.setPort_outdatedHere (s : State) (p : Port) (x : PortState) : (s.setPort p x).outdatedHere = s.outdatedHere := rfl
@[simp] theorem State.setPort_outdatedNow (s : State) (p : Port) (x : PortState) : (s.setPort p x).outdatedNow = s.outdatedNow := rfl
@[simp] theorem State.setPort_pending (s : State) (p : Port) (x : PortState) : (s.setPort p x).pending = s.pending := rfl

/-! ### emit -/

@[simp] theorem State.emit_supply (s : State) (e : ReportEvent) : (s.emit e).supply = s.supply := rfl
@[simp] theorem State.emit_resetInput (s : State) (e : ReportEvent) : (s.emit e).resetInput = s.resetInput := rfl
@[simp] theorem State.emit_now (s : State) (e : ReportEvent) : (s.emit e).now = s.now := rfl
@[simp] theorem State.emit_freeCount (s : State) (e : ReportEvent) : (s.emit e).freeCount = s.freeCount := rfl
@[simp] theorem State.emit_records (s : State) (e : ReportEvent) : (s.emit e).records = s.records := rfl
@[simp] theorem State.emit_sensors (s : State) (e : ReportEvent) : (s.emit e).sensors = s.sensors := rfl
@[simp] theorem State.emit_pollingSince (s : State) (e : ReportEvent) : (s.emit e).pollingSince = s.pollingSince := rfl
@[simp] theorem State.emit_parked (s : State) (e : ReportEvent) : (s.emit e).parked = s.parked := rfl
@[simp] theorem State.emit_crossCheckTimer (s : State) (e : ReportEvent) : (s.emit e).crossCheckTimer = s.crossCheckTimer := rfl
@[simp] theorem State.emit_cal (s : State) (e : ReportEvent) : (s.emit e).cal = s.cal := rfl
@[simp] theorem State.emit_authority (s : State) (e : ReportEvent) : (s.emit e).authority = s.authority := rfl
@[simp] theorem State.emit_recipes (s : State) (e : ReportEvent) : (s.emit e).recipes = s.recipes := rfl
@[simp] theorem State.emit_runs (s : State) (e : ReportEvent) : (s.emit e).runs = s.runs := rfl
@[simp] theorem State.emit_settleTimers (s : State) (e : ReportEvent) : (s.emit e).settleTimers = s.settleTimers := rfl
@[simp] theorem State.emit_lastRuns (s : State) (e : ReportEvent) : (s.emit e).lastRuns = s.lastRuns := rfl
@[simp] theorem State.emit_runIdCounter (s : State) (e : ReportEvent) : (s.emit e).runIdCounter = s.runIdCounter := rfl
@[simp] theorem State.emit_channel (s : State) (e : ReportEvent) : (s.emit e).channel = s.channel := rfl
@[simp] theorem State.emit_loads (s : State) (e : ReportEvent) : (s.emit e).loads = s.loads := rfl
@[simp] theorem State.emit_cont (s : State) (e : ReportEvent) : (s.emit e).cont = s.cont := rfl
@[simp] theorem State.emit_link (s : State) (e : ReportEvent) : (s.emit e).link = s.link := rfl
@[simp] theorem State.emit_planner (s : State) (e : ReportEvent) : (s.emit e).planner = s.planner := rfl
@[simp] theorem State.emit_ports (s : State) (e : ReportEvent) : (s.emit e).ports = s.ports := rfl
@[simp] theorem State.emit_retention (s : State) (e : ReportEvent) : (s.emit e).retention = s.retention := rfl
@[simp] theorem State.emit_outbox (s : State) (e : ReportEvent) : (s.emit e).outbox = s.outbox ++ [e] := rfl
@[simp] theorem State.emit_parkTestDue (s : State) (e : ReportEvent) : (s.emit e).parkTestDue = s.parkTestDue := rfl
@[simp] theorem State.emit_outdatedHere (s : State) (e : ReportEvent) : (s.emit e).outdatedHere = s.outdatedHere := rfl
@[simp] theorem State.emit_outdatedNow (s : State) (e : ReportEvent) : (s.emit e).outdatedNow = s.outdatedNow := rfl
@[simp] theorem State.emit_pending (s : State) (e : ReportEvent) : (s.emit e).pending = s.pending := rfl

/-! ### wantParkTest -/

@[simp] theorem State.wantParkTest_supply (s : State) : (s.wantParkTest).supply = s.supply := rfl
@[simp] theorem State.wantParkTest_resetInput (s : State) : (s.wantParkTest).resetInput = s.resetInput := rfl
@[simp] theorem State.wantParkTest_now (s : State) : (s.wantParkTest).now = s.now := rfl
@[simp] theorem State.wantParkTest_freeCount (s : State) : (s.wantParkTest).freeCount = s.freeCount := rfl
@[simp] theorem State.wantParkTest_records (s : State) : (s.wantParkTest).records = s.records := rfl
@[simp] theorem State.wantParkTest_sensors (s : State) : (s.wantParkTest).sensors = s.sensors := rfl
@[simp] theorem State.wantParkTest_pollingSince (s : State) : (s.wantParkTest).pollingSince = s.pollingSince := rfl
@[simp] theorem State.wantParkTest_parked (s : State) : (s.wantParkTest).parked = s.parked := rfl
@[simp] theorem State.wantParkTest_crossCheckTimer (s : State) : (s.wantParkTest).crossCheckTimer = s.crossCheckTimer := rfl
@[simp] theorem State.wantParkTest_cal (s : State) : (s.wantParkTest).cal = s.cal := rfl
@[simp] theorem State.wantParkTest_authority (s : State) : (s.wantParkTest).authority = s.authority := rfl
@[simp] theorem State.wantParkTest_recipes (s : State) : (s.wantParkTest).recipes = s.recipes := rfl
@[simp] theorem State.wantParkTest_runs (s : State) : (s.wantParkTest).runs = s.runs := rfl
@[simp] theorem State.wantParkTest_settleTimers (s : State) : (s.wantParkTest).settleTimers = s.settleTimers := rfl
@[simp] theorem State.wantParkTest_lastRuns (s : State) : (s.wantParkTest).lastRuns = s.lastRuns := rfl
@[simp] theorem State.wantParkTest_runIdCounter (s : State) : (s.wantParkTest).runIdCounter = s.runIdCounter := rfl
@[simp] theorem State.wantParkTest_channel (s : State) : (s.wantParkTest).channel = s.channel := rfl
@[simp] theorem State.wantParkTest_loads (s : State) : (s.wantParkTest).loads = s.loads := rfl
@[simp] theorem State.wantParkTest_cont (s : State) : (s.wantParkTest).cont = s.cont := rfl
@[simp] theorem State.wantParkTest_link (s : State) : (s.wantParkTest).link = s.link := rfl
@[simp] theorem State.wantParkTest_planner (s : State) : (s.wantParkTest).planner = s.planner := rfl
@[simp] theorem State.wantParkTest_ports (s : State) : (s.wantParkTest).ports = s.ports := rfl
@[simp] theorem State.wantParkTest_retention (s : State) : (s.wantParkTest).retention = s.retention := rfl
@[simp] theorem State.wantParkTest_outbox (s : State) : (s.wantParkTest).outbox = s.outbox := rfl
@[simp] theorem State.wantParkTest_parkTestDue (s : State) : (s.wantParkTest).parkTestDue = true := rfl
@[simp] theorem State.wantParkTest_outdatedHere (s : State) : (s.wantParkTest).outdatedHere = s.outdatedHere := rfl
@[simp] theorem State.wantParkTest_outdatedNow (s : State) : (s.wantParkTest).outdatedNow = s.outdatedNow := rfl
@[simp] theorem State.wantParkTest_pending (s : State) : (s.wantParkTest).pending = s.pending := rfl

/-! ### noteOutdated -/

@[simp] theorem State.noteOutdated_supply (s : State) (a : Axis) : (s.noteOutdated a).supply = s.supply := rfl
@[simp] theorem State.noteOutdated_resetInput (s : State) (a : Axis) : (s.noteOutdated a).resetInput = s.resetInput := rfl
@[simp] theorem State.noteOutdated_now (s : State) (a : Axis) : (s.noteOutdated a).now = s.now := rfl
@[simp] theorem State.noteOutdated_freeCount (s : State) (a : Axis) : (s.noteOutdated a).freeCount = s.freeCount := rfl
@[simp] theorem State.noteOutdated_records (s : State) (a : Axis) : (s.noteOutdated a).records = s.records := rfl
@[simp] theorem State.noteOutdated_sensors (s : State) (a : Axis) : (s.noteOutdated a).sensors = s.sensors := rfl
@[simp] theorem State.noteOutdated_pollingSince (s : State) (a : Axis) : (s.noteOutdated a).pollingSince = s.pollingSince := rfl
@[simp] theorem State.noteOutdated_parked (s : State) (a : Axis) : (s.noteOutdated a).parked = s.parked := rfl
@[simp] theorem State.noteOutdated_crossCheckTimer (s : State) (a : Axis) : (s.noteOutdated a).crossCheckTimer = s.crossCheckTimer := rfl
@[simp] theorem State.noteOutdated_cal (s : State) (a : Axis) : (s.noteOutdated a).cal = s.cal := rfl
@[simp] theorem State.noteOutdated_authority (s : State) (a : Axis) : (s.noteOutdated a).authority = s.authority := rfl
@[simp] theorem State.noteOutdated_recipes (s : State) (a : Axis) : (s.noteOutdated a).recipes = s.recipes := rfl
@[simp] theorem State.noteOutdated_runs (s : State) (a : Axis) : (s.noteOutdated a).runs = s.runs := rfl
@[simp] theorem State.noteOutdated_settleTimers (s : State) (a : Axis) : (s.noteOutdated a).settleTimers = s.settleTimers := rfl
@[simp] theorem State.noteOutdated_lastRuns (s : State) (a : Axis) : (s.noteOutdated a).lastRuns = s.lastRuns := rfl
@[simp] theorem State.noteOutdated_runIdCounter (s : State) (a : Axis) : (s.noteOutdated a).runIdCounter = s.runIdCounter := rfl
@[simp] theorem State.noteOutdated_channel (s : State) (a : Axis) : (s.noteOutdated a).channel = s.channel := rfl
@[simp] theorem State.noteOutdated_loads (s : State) (a : Axis) : (s.noteOutdated a).loads = s.loads := rfl
@[simp] theorem State.noteOutdated_cont (s : State) (a : Axis) : (s.noteOutdated a).cont = s.cont := rfl
@[simp] theorem State.noteOutdated_link (s : State) (a : Axis) : (s.noteOutdated a).link = s.link := rfl
@[simp] theorem State.noteOutdated_planner (s : State) (a : Axis) : (s.noteOutdated a).planner = s.planner := rfl
@[simp] theorem State.noteOutdated_ports (s : State) (a : Axis) : (s.noteOutdated a).ports = s.ports := rfl
@[simp] theorem State.noteOutdated_retention (s : State) (a : Axis) : (s.noteOutdated a).retention = s.retention := rfl
@[simp] theorem State.noteOutdated_outbox (s : State) (a : Axis) : (s.noteOutdated a).outbox = s.outbox := rfl
@[simp] theorem State.noteOutdated_parkTestDue (s : State) (a : Axis) : (s.noteOutdated a).parkTestDue = s.parkTestDue := rfl
@[simp] theorem State.noteOutdated_outdatedHere (s : State) (a : Axis) : (s.noteOutdated a).outdatedHere = s.outdatedHere.set a true := rfl
@[simp] theorem State.noteOutdated_outdatedNow (s : State) (a : Axis) : (s.noteOutdated a).outdatedNow = s.outdatedNow := rfl
@[simp] theorem State.noteOutdated_pending (s : State) (a : Axis) : (s.noteOutdated a).pending = s.pending := rfl

/-! ### useFree -/

@[simp] theorem State.useFree_supply (s : State) : (s.useFree).supply = s.supply := rfl
@[simp] theorem State.useFree_resetInput (s : State) : (s.useFree).resetInput = s.resetInput := rfl
@[simp] theorem State.useFree_now (s : State) : (s.useFree).now = s.now := rfl
@[simp] theorem State.useFree_freeCount (s : State) : (s.useFree).freeCount = s.freeCount + 1 := rfl
@[simp] theorem State.useFree_records (s : State) : (s.useFree).records = s.records := rfl
@[simp] theorem State.useFree_sensors (s : State) : (s.useFree).sensors = s.sensors := rfl
@[simp] theorem State.useFree_pollingSince (s : State) : (s.useFree).pollingSince = s.pollingSince := rfl
@[simp] theorem State.useFree_parked (s : State) : (s.useFree).parked = s.parked := rfl
@[simp] theorem State.useFree_crossCheckTimer (s : State) : (s.useFree).crossCheckTimer = s.crossCheckTimer := rfl
@[simp] theorem State.useFree_cal (s : State) : (s.useFree).cal = s.cal := rfl
@[simp] theorem State.useFree_authority (s : State) : (s.useFree).authority = s.authority := rfl
@[simp] theorem State.useFree_recipes (s : State) : (s.useFree).recipes = s.recipes := rfl
@[simp] theorem State.useFree_runs (s : State) : (s.useFree).runs = s.runs := rfl
@[simp] theorem State.useFree_settleTimers (s : State) : (s.useFree).settleTimers = s.settleTimers := rfl
@[simp] theorem State.useFree_lastRuns (s : State) : (s.useFree).lastRuns = s.lastRuns := rfl
@[simp] theorem State.useFree_runIdCounter (s : State) : (s.useFree).runIdCounter = s.runIdCounter := rfl
@[simp] theorem State.useFree_channel (s : State) : (s.useFree).channel = s.channel := rfl
@[simp] theorem State.useFree_loads (s : State) : (s.useFree).loads = s.loads := rfl
@[simp] theorem State.useFree_cont (s : State) : (s.useFree).cont = s.cont := rfl
@[simp] theorem State.useFree_link (s : State) : (s.useFree).link = s.link := rfl
@[simp] theorem State.useFree_planner (s : State) : (s.useFree).planner = s.planner := rfl
@[simp] theorem State.useFree_ports (s : State) : (s.useFree).ports = s.ports := rfl
@[simp] theorem State.useFree_retention (s : State) : (s.useFree).retention = s.retention := rfl
@[simp] theorem State.useFree_outbox (s : State) : (s.useFree).outbox = s.outbox := rfl
@[simp] theorem State.useFree_parkTestDue (s : State) : (s.useFree).parkTestDue = s.parkTestDue := rfl
@[simp] theorem State.useFree_outdatedHere (s : State) : (s.useFree).outdatedHere = s.outdatedHere := rfl
@[simp] theorem State.useFree_outdatedNow (s : State) : (s.useFree).outdatedNow = s.outdatedNow := rfl
@[simp] theorem State.useFree_pending (s : State) : (s.useFree).pending = s.pending := rfl

/-! ### writeRetention -/

@[simp] theorem State.writeRetention_supply (s : State) (n : Fin retentionSize) (v : Byte) : (s.writeRetention n v).supply = s.supply := rfl
@[simp] theorem State.writeRetention_resetInput (s : State) (n : Fin retentionSize) (v : Byte) : (s.writeRetention n v).resetInput = s.resetInput := rfl
@[simp] theorem State.writeRetention_now (s : State) (n : Fin retentionSize) (v : Byte) : (s.writeRetention n v).now = s.now := rfl
@[simp] theorem State.writeRetention_freeCount (s : State) (n : Fin retentionSize) (v : Byte) : (s.writeRetention n v).freeCount = s.freeCount := rfl
@[simp] theorem State.writeRetention_records (s : State) (n : Fin retentionSize) (v : Byte) : (s.writeRetention n v).records = s.records := rfl
@[simp] theorem State.writeRetention_sensors (s : State) (n : Fin retentionSize) (v : Byte) : (s.writeRetention n v).sensors = s.sensors := rfl
@[simp] theorem State.writeRetention_pollingSince (s : State) (n : Fin retentionSize) (v : Byte) : (s.writeRetention n v).pollingSince = s.pollingSince := rfl
@[simp] theorem State.writeRetention_parked (s : State) (n : Fin retentionSize) (v : Byte) : (s.writeRetention n v).parked = s.parked := rfl
@[simp] theorem State.writeRetention_crossCheckTimer (s : State) (n : Fin retentionSize) (v : Byte) : (s.writeRetention n v).crossCheckTimer = s.crossCheckTimer := rfl
@[simp] theorem State.writeRetention_cal (s : State) (n : Fin retentionSize) (v : Byte) : (s.writeRetention n v).cal = s.cal := rfl
@[simp] theorem State.writeRetention_authority (s : State) (n : Fin retentionSize) (v : Byte) : (s.writeRetention n v).authority = s.authority := rfl
@[simp] theorem State.writeRetention_recipes (s : State) (n : Fin retentionSize) (v : Byte) : (s.writeRetention n v).recipes = s.recipes := rfl
@[simp] theorem State.writeRetention_runs (s : State) (n : Fin retentionSize) (v : Byte) : (s.writeRetention n v).runs = s.runs := rfl
@[simp] theorem State.writeRetention_settleTimers (s : State) (n : Fin retentionSize) (v : Byte) : (s.writeRetention n v).settleTimers = s.settleTimers := rfl
@[simp] theorem State.writeRetention_lastRuns (s : State) (n : Fin retentionSize) (v : Byte) : (s.writeRetention n v).lastRuns = s.lastRuns := rfl
@[simp] theorem State.writeRetention_runIdCounter (s : State) (n : Fin retentionSize) (v : Byte) : (s.writeRetention n v).runIdCounter = s.runIdCounter := rfl
@[simp] theorem State.writeRetention_channel (s : State) (n : Fin retentionSize) (v : Byte) : (s.writeRetention n v).channel = s.channel := rfl
@[simp] theorem State.writeRetention_loads (s : State) (n : Fin retentionSize) (v : Byte) : (s.writeRetention n v).loads = s.loads := rfl
@[simp] theorem State.writeRetention_cont (s : State) (n : Fin retentionSize) (v : Byte) : (s.writeRetention n v).cont = s.cont := rfl
@[simp] theorem State.writeRetention_link (s : State) (n : Fin retentionSize) (v : Byte) : (s.writeRetention n v).link = s.link := rfl
@[simp] theorem State.writeRetention_planner (s : State) (n : Fin retentionSize) (v : Byte) : (s.writeRetention n v).planner = s.planner := rfl
@[simp] theorem State.writeRetention_ports (s : State) (n : Fin retentionSize) (v : Byte) : (s.writeRetention n v).ports = s.ports := rfl
@[simp] theorem State.writeRetention_retention (s : State) (n : Fin retentionSize) (v : Byte) : (s.writeRetention n v).retention = Memory.write s.retention n.val v := rfl
@[simp] theorem State.writeRetention_outbox (s : State) (n : Fin retentionSize) (v : Byte) : (s.writeRetention n v).outbox = s.outbox := rfl
@[simp] theorem State.writeRetention_parkTestDue (s : State) (n : Fin retentionSize) (v : Byte) : (s.writeRetention n v).parkTestDue = s.parkTestDue := rfl
@[simp] theorem State.writeRetention_outdatedHere (s : State) (n : Fin retentionSize) (v : Byte) : (s.writeRetention n v).outdatedHere = s.outdatedHere := rfl
@[simp] theorem State.writeRetention_outdatedNow (s : State) (n : Fin retentionSize) (v : Byte) : (s.writeRetention n v).outdatedNow = s.outdatedNow := rfl
@[simp] theorem State.writeRetention_pending (s : State) (n : Fin retentionSize) (v : Byte) : (s.writeRetention n v).pending = s.pending := rfl

/-! ### setAllMoving -/

@[simp] theorem State.setAllMoving_supply (s : State) (m : AxisSet) : (s.setAllMoving m).supply = s.supply := rfl
@[simp] theorem State.setAllMoving_resetInput (s : State) (m : AxisSet) : (s.setAllMoving m).resetInput = s.resetInput := rfl
@[simp] theorem State.setAllMoving_now (s : State) (m : AxisSet) : (s.setAllMoving m).now = s.now := rfl
@[simp] theorem State.setAllMoving_freeCount (s : State) (m : AxisSet) : (s.setAllMoving m).freeCount = s.freeCount := rfl
@[simp] theorem State.setAllMoving_records (s : State) (m : AxisSet) : (s.setAllMoving m).records = PerAxis.of fun a => { s.record a with movingSinceCapture := m.get a } := rfl
@[simp] theorem State.setAllMoving_sensors (s : State) (m : AxisSet) : (s.setAllMoving m).sensors = s.sensors := rfl
@[simp] theorem State.setAllMoving_pollingSince (s : State) (m : AxisSet) : (s.setAllMoving m).pollingSince = s.pollingSince := rfl
@[simp] theorem State.setAllMoving_parked (s : State) (m : AxisSet) : (s.setAllMoving m).parked = s.parked := rfl
@[simp] theorem State.setAllMoving_crossCheckTimer (s : State) (m : AxisSet) : (s.setAllMoving m).crossCheckTimer = s.crossCheckTimer := rfl
@[simp] theorem State.setAllMoving_cal (s : State) (m : AxisSet) : (s.setAllMoving m).cal = s.cal := rfl
@[simp] theorem State.setAllMoving_authority (s : State) (m : AxisSet) : (s.setAllMoving m).authority = s.authority := rfl
@[simp] theorem State.setAllMoving_recipes (s : State) (m : AxisSet) : (s.setAllMoving m).recipes = s.recipes := rfl
@[simp] theorem State.setAllMoving_runs (s : State) (m : AxisSet) : (s.setAllMoving m).runs = s.runs := rfl
@[simp] theorem State.setAllMoving_settleTimers (s : State) (m : AxisSet) : (s.setAllMoving m).settleTimers = s.settleTimers := rfl
@[simp] theorem State.setAllMoving_lastRuns (s : State) (m : AxisSet) : (s.setAllMoving m).lastRuns = s.lastRuns := rfl
@[simp] theorem State.setAllMoving_runIdCounter (s : State) (m : AxisSet) : (s.setAllMoving m).runIdCounter = s.runIdCounter := rfl
@[simp] theorem State.setAllMoving_channel (s : State) (m : AxisSet) : (s.setAllMoving m).channel = s.channel := rfl
@[simp] theorem State.setAllMoving_loads (s : State) (m : AxisSet) : (s.setAllMoving m).loads = s.loads := rfl
@[simp] theorem State.setAllMoving_cont (s : State) (m : AxisSet) : (s.setAllMoving m).cont = s.cont := rfl
@[simp] theorem State.setAllMoving_link (s : State) (m : AxisSet) : (s.setAllMoving m).link = s.link := rfl
@[simp] theorem State.setAllMoving_planner (s : State) (m : AxisSet) : (s.setAllMoving m).planner = s.planner := rfl
@[simp] theorem State.setAllMoving_ports (s : State) (m : AxisSet) : (s.setAllMoving m).ports = s.ports := rfl
@[simp] theorem State.setAllMoving_retention (s : State) (m : AxisSet) : (s.setAllMoving m).retention = s.retention := rfl
@[simp] theorem State.setAllMoving_outbox (s : State) (m : AxisSet) : (s.setAllMoving m).outbox = s.outbox := rfl
@[simp] theorem State.setAllMoving_parkTestDue (s : State) (m : AxisSet) : (s.setAllMoving m).parkTestDue = s.parkTestDue := rfl
@[simp] theorem State.setAllMoving_outdatedHere (s : State) (m : AxisSet) : (s.setAllMoving m).outdatedHere = s.outdatedHere := rfl
@[simp] theorem State.setAllMoving_outdatedNow (s : State) (m : AxisSet) : (s.setAllMoving m).outdatedNow = s.outdatedNow := rfl
@[simp] theorem State.setAllMoving_pending (s : State) (m : AxisSet) : (s.setAllMoving m).pending = s.pending := rfl

/-! ### answer -/

@[simp] theorem State.answer_supply (s : State) (p : Port) (t : Byte) (c : ResultCode) (b : List Byte) :
    (s.answer p t c b).supply = s.supply := rfl
@[simp] theorem State.answer_resetInput (s : State) (p : Port) (t : Byte) (c : ResultCode) (b : List Byte) :
    (s.answer p t c b).resetInput = s.resetInput := rfl
@[simp] theorem State.answer_now (s : State) (p : Port) (t : Byte) (c : ResultCode) (b : List Byte) :
    (s.answer p t c b).now = s.now := rfl
@[simp] theorem State.answer_freeCount (s : State) (p : Port) (t : Byte) (c : ResultCode) (b : List Byte) :
    (s.answer p t c b).freeCount = s.freeCount := rfl
@[simp] theorem State.answer_records (s : State) (p : Port) (t : Byte) (c : ResultCode) (b : List Byte) :
    (s.answer p t c b).records = s.records := rfl
@[simp] theorem State.answer_sensors (s : State) (p : Port) (t : Byte) (c : ResultCode) (b : List Byte) :
    (s.answer p t c b).sensors = s.sensors := rfl
@[simp] theorem State.answer_pollingSince (s : State) (p : Port) (t : Byte) (c : ResultCode) (b : List Byte) :
    (s.answer p t c b).pollingSince = s.pollingSince := rfl
@[simp] theorem State.answer_parked (s : State) (p : Port) (t : Byte) (c : ResultCode) (b : List Byte) :
    (s.answer p t c b).parked = s.parked := rfl
@[simp] theorem State.answer_crossCheckTimer (s : State) (p : Port) (t : Byte) (c : ResultCode) (b : List Byte) :
    (s.answer p t c b).crossCheckTimer = s.crossCheckTimer := rfl
@[simp] theorem State.answer_cal (s : State) (p : Port) (t : Byte) (c : ResultCode) (b : List Byte) :
    (s.answer p t c b).cal = s.cal := rfl
@[simp] theorem State.answer_authority (s : State) (p : Port) (t : Byte) (c : ResultCode) (b : List Byte) :
    (s.answer p t c b).authority = s.authority := rfl
@[simp] theorem State.answer_recipes (s : State) (p : Port) (t : Byte) (c : ResultCode) (b : List Byte) :
    (s.answer p t c b).recipes = s.recipes := rfl
@[simp] theorem State.answer_runs (s : State) (p : Port) (t : Byte) (c : ResultCode) (b : List Byte) :
    (s.answer p t c b).runs = s.runs := rfl
@[simp] theorem State.answer_settleTimers (s : State) (p : Port) (t : Byte) (c : ResultCode) (b : List Byte) :
    (s.answer p t c b).settleTimers = s.settleTimers := rfl
@[simp] theorem State.answer_lastRuns (s : State) (p : Port) (t : Byte) (c : ResultCode) (b : List Byte) :
    (s.answer p t c b).lastRuns = s.lastRuns := rfl
@[simp] theorem State.answer_runIdCounter (s : State) (p : Port) (t : Byte) (c : ResultCode) (b : List Byte) :
    (s.answer p t c b).runIdCounter = s.runIdCounter := rfl
@[simp] theorem State.answer_channel (s : State) (p : Port) (t : Byte) (c : ResultCode) (b : List Byte) :
    (s.answer p t c b).channel = s.channel := rfl
@[simp] theorem State.answer_loads (s : State) (p : Port) (t : Byte) (c : ResultCode) (b : List Byte) :
    (s.answer p t c b).loads = s.loads := rfl
@[simp] theorem State.answer_cont (s : State) (p : Port) (t : Byte) (c : ResultCode) (b : List Byte) :
    (s.answer p t c b).cont = s.cont := rfl
@[simp] theorem State.answer_link (s : State) (p : Port) (t : Byte) (c : ResultCode) (b : List Byte) :
    (s.answer p t c b).link = s.link := rfl
@[simp] theorem State.answer_planner (s : State) (p : Port) (t : Byte) (c : ResultCode) (b : List Byte) :
    (s.answer p t c b).planner = s.planner := rfl
@[simp] theorem State.answer_ports (s : State) (p : Port) (t : Byte) (c : ResultCode) (b : List Byte) :
    (s.answer p t c b).ports = s.ports.set p { s.port p with held := some { tag := t, code := c, payload := b } } := rfl
@[simp] theorem State.answer_retention (s : State) (p : Port) (t : Byte) (c : ResultCode) (b : List Byte) :
    (s.answer p t c b).retention = s.retention := rfl
@[simp] theorem State.answer_outbox (s : State) (p : Port) (t : Byte) (c : ResultCode) (b : List Byte) :
    (s.answer p t c b).outbox = s.outbox := rfl
@[simp] theorem State.answer_parkTestDue (s : State) (p : Port) (t : Byte) (c : ResultCode) (b : List Byte) :
    (s.answer p t c b).parkTestDue = s.parkTestDue := rfl
@[simp] theorem State.answer_outdatedHere (s : State) (p : Port) (t : Byte) (c : ResultCode) (b : List Byte) :
    (s.answer p t c b).outdatedHere = s.outdatedHere := rfl
@[simp] theorem State.answer_outdatedNow (s : State) (p : Port) (t : Byte) (c : ResultCode) (b : List Byte) :
    (s.answer p t c b).outdatedNow = s.outdatedNow := rfl
@[simp] theorem State.answer_pending (s : State) (p : Port) (t : Byte) (c : ResultCode) (b : List Byte) :
    (s.answer p t c b).pending = s.pending := rfl

/-! ### Accessors after an update -/

@[simp] theorem State.record_setRecord_self (s : State) (a : Axis) (x : AxisRecord) : (s.setRecord a x).record a = x := by
  simp [State.record]

theorem State.record_setRecord_ne (s : State) {a b : Axis} (x : AxisRecord) (h : b ≠ a) : (s.setRecord a x).record b = s.record b := by
  simp [State.record, PerAxis.get_set_ne _ _ h]

theorem State.record_setRecord (s : State) (a b : Axis) (x : AxisRecord) :
    (s.setRecord a x).record b = if b = a then x else s.record b := by
  simp [State.record, PerAxis.get_set]

@[simp] theorem State.sensor_setSensor_self (s : State) (a : Axis) (x : SensorState) : (s.setSensor a x).sensor a = x := by
  simp [State.sensor]

theorem State.sensor_setSensor_ne (s : State) {a b : Axis} (x : SensorState) (h : b ≠ a) : (s.setSensor a x).sensor b = s.sensor b := by
  simp [State.sensor, PerAxis.get_set_ne _ _ h]

theorem State.sensor_setSensor (s : State) (a b : Axis) (x : SensorState) :
    (s.setSensor a x).sensor b = if b = a then x else s.sensor b := by
  simp [State.sensor, PerAxis.get_set]

@[simp] theorem State.load_setLoad_self (s : State) (a : Axis) (x : LoadState) : (s.setLoad a x).load a = x := by
  simp [State.load]

theorem State.load_setLoad_ne (s : State) {a b : Axis} (x : LoadState) (h : b ≠ a) : (s.setLoad a x).load b = s.load b := by
  simp [State.load, PerAxis.get_set_ne _ _ h]

theorem State.load_setLoad (s : State) (a b : Axis) (x : LoadState) :
    (s.setLoad a x).load b = if b = a then x else s.load b := by
  simp [State.load, PerAxis.get_set]

@[simp] theorem State.auth_setAuth_self (s : State) (a : Axis) (x : AuthEntry) : (s.setAuth a x).auth a = x := by
  simp [State.auth]

theorem State.auth_setAuth_ne (s : State) {a b : Axis} (x : AuthEntry) (h : b ≠ a) : (s.setAuth a x).auth b = s.auth b := by
  simp [State.auth, PerAxis.get_set_ne _ _ h]

theorem State.auth_setAuth (s : State) (a b : Axis) (x : AuthEntry) :
    (s.setAuth a x).auth b = if b = a then x else s.auth b := by
  simp [State.auth, PerAxis.get_set]

@[simp] theorem State.run_setRun_self (s : State) (a : Axis) (x : Option Run) : (s.setRun a x).run a = x := by
  simp [State.run]

theorem State.run_setRun_ne (s : State) {a b : Axis} (x : Option Run) (h : b ≠ a) : (s.setRun a x).run b = s.run b := by
  simp [State.run, PerAxis.get_set_ne _ _ h]

theorem State.run_setRun (s : State) (a b : Axis) (x : Option Run) :
    (s.setRun a x).run b = if b = a then x else s.run b := by
  simp [State.run, PerAxis.get_set]

@[simp] theorem State.port_setPort_self (s : State) (p : Port) (x : PortState) : (s.setPort p x).port p = x := by
  simp [State.port]

theorem State.port_setPort_ne (s : State) {p q : Port} (x : PortState) (h : q ≠ p) : (s.setPort p x).port q = s.port q := by
  simp [State.port, PerPort.get_set_ne _ _ h]

/-- A response becomes the port's held response, and nothing else changes (R176). -/
theorem State.answer_eq (s : State) (p : Port) (tag : Byte) (code : ResultCode) (b : List Byte) :
    s.answer p tag code b = s.setPort p { s.port p with held := some { tag := tag, code := code, payload := b } } := rfl

end Sys2Proof.Machine
end

