-- ==== Sys2Proof/Laws/Finish.lean ====
section
/-! SUPPORT. The end of every command: the park test, the delivery of reports and the arbiter change only the capture, the
link, the writes in hand, the slot directory and the report queues. -/
-- The many small lemmas of this file are checked one after the other: side by side they would need more threads than the
-- memory limit of the check allows.
set_option Elab.async false
set_option linter.all false

namespace Sys2Proof.Machine

/-- The parts of the state that the end of a command keeps. -/
structure Settled where
  supply : Bool
  resetInput : Bool
  now : Micros
  freeCount : Nat
  records : PerAxis AxisRecord
  sensors : PerAxis SensorState
  pollingSince : Option Micros
  parked : Bool
  crossCheckTimer : Micros
  authority : PerAxis AuthEntry
  runs : PerAxis (Option Run)
  settleTimers : PerAxis Timer
  lastRuns : PerAxis (Option (Nat × RunResult))
  runIdCounter : Nat
  channel : MoveChannel
  loads : PerAxis LoadState
  planner : Planner
  retention : Memory
  pending : List Instr
  calActive : CalSet
  calStaging : CalSet
  axisEditor : PerAxis (Option Claimant)
  deviceEditor : Option Claimant
  points : PerAxis CapturePoints
  calValidity : Validity
  fingerprint : BitVec 32
  calLoaded : Bool
  recipesActive : List (List Step)
  recipesStaging : List (List Step)
  recipesValidity : Validity
  recipesLoaded : Bool
  phase : Phase
  pfw : Bool
  newest : Option Slot
  owed : Bool
  park : ParkState
  parkTimer : Timer
  waitingSlotWrites : List Slot

/-- The parts of a state that the end of a command keeps. -/
def State.settled (s : State) : Settled :=
  { supply := s.supply
    resetInput := s.resetInput
    now := s.now
    freeCount := s.freeCount
    records := s.records
    sensors := s.sensors
    pollingSince := s.pollingSince
    parked := s.parked
    crossCheckTimer := s.crossCheckTimer
    authority := s.authority
    runs := s.runs
    settleTimers := s.settleTimers
    lastRuns := s.lastRuns
    runIdCounter := s.runIdCounter
    channel := s.channel
    loads := s.loads
    planner := s.planner
    retention := s.retention
    pending := s.pending
    calActive := s.cal.active
    calStaging := s.cal.staging
    axisEditor := s.cal.axisEditor
    deviceEditor := s.cal.deviceEditor
    points := s.cal.points
    calValidity := s.cal.validity
    fingerprint := s.cal.fingerprint
    calLoaded := s.cal.loaded
    recipesActive := s.recipes.active
    recipesStaging := s.recipes.staging
    recipesValidity := s.recipes.validity
    recipesLoaded := s.recipes.loaded
    phase := s.cont.phase
    pfw := s.cont.pfw
    newest := s.cont.newest
    owed := s.cont.owed
    park := s.cont.park
    parkTimer := s.cont.parkTimer
    waitingSlotWrites := s.cont.waitingSlotWrites }

@[simp] theorem State.setLink_settled (s : State) (x : Option LinkByte) : (s.setLink x).settled = s.settled := rfl

@[simp] theorem State.startByte_settled (s : State) (o : LinkOwner) (n : Nat) (v : Byte) : (s.startByte o n v).settled = s.settled := rfl

@[simp] theorem State.cutCalWrite_settled (s : State) : s.cutCalWrite.settled = s.settled := by
  unfold State.cutCalWrite
  split <;> rfl

@[simp] theorem State.cutRecipeWrite_settled (s : State) : s.cutRecipeWrite.settled = s.settled := by
  unfold State.cutRecipeWrite
  split <;> rfl

@[simp] theorem State.startCapture_settled (s : State) (r : CaptureReason) : (s.startCapture r).settled = s.settled := by
  simp only [State.startCapture, State.cutRecipeWrite_settled, State.cutCalWrite_settled]
  rfl

@[simp] theorem State.parkTest_settled (s : State) : s.parkTest.settled = s.settled := by
  unfold State.parkTest
  split <;> simp

@[simp] theorem State.serveCapture_settled (s : State) (c : Capture) : (s.serveCapture c).settled = s.settled := by
  simp only [State.serveCapture, State.startByte_settled]
  split
  · cases c.target <;> rfl
  · rfl

@[simp] theorem State.serveRegions_settled (s : State) : s.serveRegions.settled = s.settled := by
  unfold State.serveRegions
  (repeat' split) <;> rfl

@[simp] theorem State.serve_settled (s : State) : s.serve.settled = s.settled := by
  unfold State.serve
  (repeat' split) <;> simp

@[simp] theorem State.deliver_settled (s : State) : s.deliver.settled = s.settled := rfl

/-- What the end of a command keeps. -/
theorem State.finish_settled (s : State) : s.finish.settled = s.settled := by
  unfold State.finish
  rw [State.serve_settled, ← State.parkTest_settled s]
  rfl

@[simp] theorem State.finish_supply (s : State) : s.finish.supply = s.supply := congrArg Settled.supply s.finish_settled
@[simp] theorem State.parkTest_supply (s : State) : s.parkTest.supply = s.supply := congrArg Settled.supply s.parkTest_settled
@[simp] theorem State.serve_supply (s : State) : s.serve.supply = s.supply := congrArg Settled.supply s.serve_settled
@[simp] theorem State.finish_resetInput (s : State) : s.finish.resetInput = s.resetInput := congrArg Settled.resetInput s.finish_settled
@[simp] theorem State.parkTest_resetInput (s : State) : s.parkTest.resetInput = s.resetInput := congrArg Settled.resetInput s.parkTest_settled
@[simp] theorem State.serve_resetInput (s : State) : s.serve.resetInput = s.resetInput := congrArg Settled.resetInput s.serve_settled
@[simp] theorem State.finish_now (s : State) : s.finish.now = s.now := congrArg Settled.now s.finish_settled
@[simp] theorem State.parkTest_now (s : State) : s.parkTest.now = s.now := congrArg Settled.now s.parkTest_settled
@[simp] theorem State.serve_now (s : State) : s.serve.now = s.now := congrArg Settled.now s.serve_settled
@[simp] theorem State.finish_freeCount (s : State) : s.finish.freeCount = s.freeCount := congrArg Settled.freeCount s.finish_settled
@[simp] theorem State.parkTest_freeCount (s : State) : s.parkTest.freeCount = s.freeCount := congrArg Settled.freeCount s.parkTest_settled
@[simp] theorem State.serve_freeCount (s : State) : s.serve.freeCount = s.freeCount := congrArg Settled.freeCount s.serve_settled
@[simp] theorem State.finish_records (s : State) : s.finish.records = s.records := congrArg Settled.records s.finish_settled
@[simp] theorem State.parkTest_records (s : State) : s.parkTest.records = s.records := congrArg Settled.records s.parkTest_settled
@[simp] theorem State.serve_records (s : State) : s.serve.records = s.records := congrArg Settled.records s.serve_settled
@[simp] theorem State.finish_sensors (s : State) : s.finish.sensors = s.sensors := congrArg Settled.sensors s.finish_settled
@[simp] theorem State.parkTest_sensors (s : State) : s.parkTest.sensors = s.sensors := congrArg Settled.sensors s.parkTest_settled
@[simp] theorem State.serve_sensors (s : State) : s.serve.sensors = s.sensors := congrArg Settled.sensors s.serve_settled
@[simp] theorem State.finish_pollingSince (s : State) : s.finish.pollingSince = s.pollingSince := congrArg Settled.pollingSince s.finish_settled
@[simp] theorem State.parkTest_pollingSince (s : State) : s.parkTest.pollingSince = s.pollingSince := congrArg Settled.pollingSince s.parkTest_settled
@[simp] theorem State.serve_pollingSince (s : State) : s.serve.pollingSince = s.pollingSince := congrArg Settled.pollingSince s.serve_settled
@[simp] theorem State.finish_parked (s : State) : s.finish.parked = s.parked := congrArg Settled.parked s.finish_settled
@[simp] theorem State.parkTest_parked (s : State) : s.parkTest.parked = s.parked := congrArg Settled.parked s.parkTest_settled
@[simp] theorem State.serve_parked (s : State) : s.serve.parked = s.parked := congrArg Settled.parked s.serve_settled
@[simp] theorem State.finish_crossCheckTimer (s : State) : s.finish.crossCheckTimer = s.crossCheckTimer := congrArg Settled.crossCheckTimer s.finish_settled
@[simp] theorem State.parkTest_crossCheckTimer (s : State) : s.parkTest.crossCheckTimer = s.crossCheckTimer := congrArg Settled.crossCheckTimer s.parkTest_settled
@[simp] theorem State.serve_crossCheckTimer (s : State) : s.serve.crossCheckTimer = s.crossCheckTimer := congrArg Settled.crossCheckTimer s.serve_settled
@[simp] theorem State.finish_authority (s : State) : s.finish.authority = s.authority := congrArg Settled.authority s.finish_settled
@[simp] theorem State.parkTest_authority (s : State) : s.parkTest.authority = s.authority := congrArg Settled.authority s.parkTest_settled
@[simp] theorem State.serve_authority (s : State) : s.serve.authority = s.authority := congrArg Settled.authority s.serve_settled
@[simp] theorem State.finish_runs (s : State) : s.finish.runs = s.runs := congrArg Settled.runs s.finish_settled
@[simp] theorem State.parkTest_runs (s : State) : s.parkTest.runs = s.runs := congrArg Settled.runs s.parkTest_settled
@[simp] theorem State.serve_runs (s : State) : s.serve.runs = s.runs := congrArg Settled.runs s.serve_settled
@[simp] theorem State.finish_settleTimers (s : State) : s.finish.settleTimers = s.settleTimers := congrArg Settled.settleTimers s.finish_settled
@[simp] theorem State.parkTest_settleTimers (s : State) : s.parkTest.settleTimers = s.settleTimers := congrArg Settled.settleTimers s.parkTest_settled
@[simp] theorem State.serve_settleTimers (s : State) : s.serve.settleTimers = s.settleTimers := congrArg Settled.settleTimers s.serve_settled
@[simp] theorem State.finish_lastRuns (s : State) : s.finish.lastRuns = s.lastRuns := congrArg Settled.lastRuns s.finish_settled
@[simp] theorem State.parkTest_lastRuns (s : State) : s.parkTest.lastRuns = s.lastRuns := congrArg Settled.lastRuns s.parkTest_settled
@[simp] theorem State.serve_lastRuns (s : State) : s.serve.lastRuns = s.lastRuns := congrArg Settled.lastRuns s.serve_settled
@[simp] theorem State.finish_runIdCounter (s : State) : s.finish.runIdCounter = s.runIdCounter := congrArg Settled.runIdCounter s.finish_settled
@[simp] theorem State.parkTest_runIdCounter (s : State) : s.parkTest.runIdCounter = s.runIdCounter := congrArg Settled.runIdCounter s.parkTest_settled
@[simp] theorem State.serve_runIdCounter (s : State) : s.serve.runIdCounter = s.runIdCounter := congrArg Settled.runIdCounter s.serve_settled
@[simp] theorem State.finish_channel (s : State) : s.finish.channel = s.channel := congrArg Settled.channel s.finish_settled
@[simp] theorem State.parkTest_channel (s : State) : s.parkTest.channel = s.channel := congrArg Settled.channel s.parkTest_settled
@[simp] theorem State.serve_channel (s : State) : s.serve.channel = s.channel := congrArg Settled.channel s.serve_settled
@[simp] theorem State.finish_loads (s : State) : s.finish.loads = s.loads := congrArg Settled.loads s.finish_settled
@[simp] theorem State.parkTest_loads (s : State) : s.parkTest.loads = s.loads := congrArg Settled.loads s.parkTest_settled
@[simp] theorem State.serve_loads (s : State) : s.serve.loads = s.loads := congrArg Settled.loads s.serve_settled
@[simp] theorem State.finish_planner (s : State) : s.finish.planner = s.planner := congrArg Settled.planner s.finish_settled
@[simp] theorem State.parkTest_planner (s : State) : s.parkTest.planner = s.planner := congrArg Settled.planner s.parkTest_settled
@[simp] theorem State.serve_planner (s : State) : s.serve.planner = s.planner := congrArg Settled.planner s.serve_settled
@[simp] theorem State.finish_retention (s : State) : s.finish.retention = s.retention := congrArg Settled.retention s.finish_settled
@[simp] theorem State.parkTest_retention (s : State) : s.parkTest.retention = s.retention := congrArg Settled.retention s.parkTest_settled
@[simp] theorem State.serve_retention (s : State) : s.serve.retention = s.retention := congrArg Settled.retention s.serve_settled
@[simp] theorem State.finish_pending (s : State) : s.finish.pending = s.pending := congrArg Settled.pending s.finish_settled
@[simp] theorem State.parkTest_pending (s : State) : s.parkTest.pending = s.pending := congrArg Settled.pending s.parkTest_settled
@[simp] theorem State.serve_pending (s : State) : s.serve.pending = s.pending := congrArg Settled.pending s.serve_settled
@[simp] theorem State.finish_calActive (s : State) : s.finish.cal.active = s.cal.active := congrArg Settled.calActive s.finish_settled
@[simp] theorem State.parkTest_calActive (s : State) : s.parkTest.cal.active = s.cal.active := congrArg Settled.calActive s.parkTest_settled
@[simp] theorem State.serve_calActive (s : State) : s.serve.cal.active = s.cal.active := congrArg Settled.calActive s.serve_settled
@[simp] theorem State.finish_calStaging (s : State) : s.finish.cal.staging = s.cal.staging := congrArg Settled.calStaging s.finish_settled
@[simp] theorem State.parkTest_calStaging (s : State) : s.parkTest.cal.staging = s.cal.staging := congrArg Settled.calStaging s.parkTest_settled
@[simp] theorem State.serve_calStaging (s : State) : s.serve.cal.staging = s.cal.staging := congrArg Settled.calStaging s.serve_settled
@[simp] theorem State.finish_axisEditor (s : State) : s.finish.cal.axisEditor = s.cal.axisEditor := congrArg Settled.axisEditor s.finish_settled
@[simp] theorem State.parkTest_axisEditor (s : State) : s.parkTest.cal.axisEditor = s.cal.axisEditor := congrArg Settled.axisEditor s.parkTest_settled
@[simp] theorem State.serve_axisEditor (s : State) : s.serve.cal.axisEditor = s.cal.axisEditor := congrArg Settled.axisEditor s.serve_settled
@[simp] theorem State.finish_deviceEditor (s : State) : s.finish.cal.deviceEditor = s.cal.deviceEditor := congrArg Settled.deviceEditor s.finish_settled
@[simp] theorem State.parkTest_deviceEditor (s : State) : s.parkTest.cal.deviceEditor = s.cal.deviceEditor := congrArg Settled.deviceEditor s.parkTest_settled
@[simp] theorem State.serve_deviceEditor (s : State) : s.serve.cal.deviceEditor = s.cal.deviceEditor := congrArg Settled.deviceEditor s.serve_settled
@[simp] theorem State.finish_points (s : State) : s.finish.cal.points = s.cal.points := congrArg Settled.points s.finish_settled
@[simp] theorem State.parkTest_points (s : State) : s.parkTest.cal.points = s.cal.points := congrArg Settled.points s.parkTest_settled
@[simp] theorem State.serve_points (s : State) : s.serve.cal.points = s.cal.points := congrArg Settled.points s.serve_settled
@[simp] theorem State.finish_calValidity (s : State) : s.finish.cal.validity = s.cal.validity := congrArg Settled.calValidity s.finish_settled
@[simp] theorem State.parkTest_calValidity (s : State) : s.parkTest.cal.validity = s.cal.validity := congrArg Settled.calValidity s.parkTest_settled
@[simp] theorem State.serve_calValidity (s : State) : s.serve.cal.validity = s.cal.validity := congrArg Settled.calValidity s.serve_settled
@[simp] theorem State.finish_fingerprint (s : State) : s.finish.cal.fingerprint = s.cal.fingerprint := congrArg Settled.fingerprint s.finish_settled
@[simp] theorem State.parkTest_fingerprint (s : State) : s.parkTest.cal.fingerprint = s.cal.fingerprint := congrArg Settled.fingerprint s.parkTest_settled
@[simp] theorem State.serve_fingerprint (s : State) : s.serve.cal.fingerprint = s.cal.fingerprint := congrArg Settled.fingerprint s.serve_settled
@[simp] theorem State.finish_calLoaded (s : State) : s.finish.cal.loaded = s.cal.loaded := congrArg Settled.calLoaded s.finish_settled
@[simp] theorem State.parkTest_calLoaded (s : State) : s.parkTest.cal.loaded = s.cal.loaded := congrArg Settled.calLoaded s.parkTest_settled
@[simp] theorem State.serve_calLoaded (s : State) : s.serve.cal.loaded = s.cal.loaded := congrArg Settled.calLoaded s.serve_settled
@[simp] theorem State.finish_recipesActive (s : State) : s.finish.recipes.active = s.recipes.active := congrArg Settled.recipesActive s.finish_settled
@[simp] theorem State.parkTest_recipesActive (s : State) : s.parkTest.recipes.active = s.recipes.active := congrArg Settled.recipesActive s.parkTest_settled
@[simp] theorem State.serve_recipesActive (s : State) : s.serve.recipes.active = s.recipes.active := congrArg Settled.recipesActive s.serve_settled
@[simp] theorem State.finish_recipesStaging (s : State) : s.finish.recipes.staging = s.recipes.staging := congrArg Settled.recipesStaging s.finish_settled
@[simp] theorem State.parkTest_recipesStaging (s : State) : s.parkTest.recipes.staging = s.recipes.staging := congrArg Settled.recipesStaging s.parkTest_settled
@[simp] theorem State.serve_recipesStaging (s : State) : s.serve.recipes.staging = s.recipes.staging := congrArg Settled.recipesStaging s.serve_settled
@[simp] theorem State.finish_recipesValidity (s : State) : s.finish.recipes.validity = s.recipes.validity := congrArg Settled.recipesValidity s.finish_settled
@[simp] theorem State.parkTest_recipesValidity (s : State) : s.parkTest.recipes.validity = s.recipes.validity := congrArg Settled.recipesValidity s.parkTest_settled
@[simp] theorem State.serve_recipesValidity (s : State) : s.serve.recipes.validity = s.recipes.validity := congrArg Settled.recipesValidity s.serve_settled
@[simp] theorem State.finish_recipesLoaded (s : State) : s.finish.recipes.loaded = s.recipes.loaded := congrArg Settled.recipesLoaded s.finish_settled
@[simp] theorem State.parkTest_recipesLoaded (s : State) : s.parkTest.recipes.loaded = s.recipes.loaded := congrArg Settled.recipesLoaded s.parkTest_settled
@[simp] theorem State.serve_recipesLoaded (s : State) : s.serve.recipes.loaded = s.recipes.loaded := congrArg Settled.recipesLoaded s.serve_settled
@[simp] theorem State.finish_phase (s : State) : s.finish.cont.phase = s.cont.phase := congrArg Settled.phase s.finish_settled
@[simp] theorem State.parkTest_phase (s : State) : s.parkTest.cont.phase = s.cont.phase := congrArg Settled.phase s.parkTest_settled
@[simp] theorem State.serve_phase (s : State) : s.serve.cont.phase = s.cont.phase := congrArg Settled.phase s.serve_settled
@[simp] theorem State.finish_pfw (s : State) : s.finish.cont.pfw = s.cont.pfw := congrArg Settled.pfw s.finish_settled
@[simp] theorem State.parkTest_pfw (s : State) : s.parkTest.cont.pfw = s.cont.pfw := congrArg Settled.pfw s.parkTest_settled
@[simp] theorem State.serve_pfw (s : State) : s.serve.cont.pfw = s.cont.pfw := congrArg Settled.pfw s.serve_settled
@[simp] theorem State.finish_newest (s : State) : s.finish.cont.newest = s.cont.newest := congrArg Settled.newest s.finish_settled
@[simp] theorem State.parkTest_newest (s : State) : s.parkTest.cont.newest = s.cont.newest := congrArg Settled.newest s.parkTest_settled
@[simp] theorem State.serve_newest (s : State) : s.serve.cont.newest = s.cont.newest := congrArg Settled.newest s.serve_settled
@[simp] theorem State.finish_owed (s : State) : s.finish.cont.owed = s.cont.owed := congrArg Settled.owed s.finish_settled
@[simp] theorem State.parkTest_owed (s : State) : s.parkTest.cont.owed = s.cont.owed := congrArg Settled.owed s.parkTest_settled
@[simp] theorem State.serve_owed (s : State) : s.serve.cont.owed = s.cont.owed := congrArg Settled.owed s.serve_settled
@[simp] theorem State.finish_park (s : State) : s.finish.cont.park = s.cont.park := congrArg Settled.park s.finish_settled
@[simp] theorem State.parkTest_park (s : State) : s.parkTest.cont.park = s.cont.park := congrArg Settled.park s.parkTest_settled
@[simp] theorem State.serve_park (s : State) : s.serve.cont.park = s.cont.park := congrArg Settled.park s.serve_settled
@[simp] theorem State.finish_parkTimer (s : State) : s.finish.cont.parkTimer = s.cont.parkTimer := congrArg Settled.parkTimer s.finish_settled
@[simp] theorem State.parkTest_parkTimer (s : State) : s.parkTest.cont.parkTimer = s.cont.parkTimer := congrArg Settled.parkTimer s.parkTest_settled
@[simp] theorem State.serve_parkTimer (s : State) : s.serve.cont.parkTimer = s.cont.parkTimer := congrArg Settled.parkTimer s.serve_settled
@[simp] theorem State.finish_waitingSlotWrites (s : State) : s.finish.cont.waitingSlotWrites = s.cont.waitingSlotWrites := congrArg Settled.waitingSlotWrites s.finish_settled
@[simp] theorem State.parkTest_waitingSlotWrites (s : State) : s.parkTest.cont.waitingSlotWrites = s.cont.waitingSlotWrites := congrArg Settled.waitingSlotWrites s.parkTest_settled
@[simp] theorem State.serve_waitingSlotWrites (s : State) : s.serve.cont.waitingSlotWrites = s.cont.waitingSlotWrites := congrArg Settled.waitingSlotWrites s.serve_settled

/-! ### The ports at the end of a command -/

/-- The parts of a Port Controller that a delivery keeps (R189). -/
theorem deliverTo_keeps (p : Port) (v : PerAxis (Option AxisView)) (es : List ReportEvent) (x : PortState) :
    (deliverTo p v es x).held = x.held ∧ (deliverTo p v es x).frameErrors = x.frameErrors
      ∧ (deliverTo p v es x).axisMask = x.axisMask ∧ (deliverTo p v es x).causeMask = x.causeMask := by
  unfold deliverTo
  split
  · simp
  · split <;> simp

/-- The parts of a Port Controller that the end of a command keeps, whether it delivers or gathers (R189, R190). -/
theorem State.deliverPort_keeps (s : State) (p : Port) :
    (s.deliverPort p).held = (s.port p).held ∧ (s.deliverPort p).frameErrors = (s.port p).frameErrors
      ∧ (s.deliverPort p).axisMask = (s.port p).axisMask ∧ (s.deliverPort p).causeMask = (s.port p).causeMask := by
  unfold State.deliverPort
  simp only
  split
  · simp [gatherFor]
  · exact deliverTo_keeps _ _ _ _

theorem updateLast_dropLast (f : ReportRecord → ReportRecord) : ∀ q : List ReportRecord, q ≠ [] →
    ∃ r, updateLast f q = q.dropLast ++ [r]
  | [], h => absurd rfl h
  | [x], _ => ⟨f x, rfl⟩
  | x :: y :: rest, _ => by
    obtain ⟨r, h⟩ := updateLast_dropLast f (y :: rest) (by simp)
    exact ⟨r, by simp [updateLast, h]⟩

/-- What a delivery makes of a report queue and its alert line: nothing, one record more, or a new last record in a full queue (R189,
R191). -/
theorem deliverTo_queue (p : Port) (v : PerAxis (Option AxisView)) (es : List ReportEvent) (x : PortState) :
    ((deliverTo p v es x).queue = x.queue ∧ (deliverTo p v es x).alert = x.alert)
      ∨ ∃ r, (x.queue.length < 4 ∧ (deliverTo p v es x).queue = x.queue ++ [r] ∧ (deliverTo p v es x).alert = true)
          ∨ (4 ≤ x.queue.length ∧ (deliverTo p v es x).queue = x.queue.dropLast ++ [r] ∧ (deliverTo p v es x).alert = x.alert) := by
  unfold deliverTo
  by_cases none : es.isEmpty = true
  · rw [if_pos none]
    exact .inl ⟨rfl, rfl⟩
  · rw [if_neg none]
    by_cases room : x.queue.length < queueCapacity
    · rw [if_pos room]
      exact .inr ⟨_, .inl ⟨room, rfl, rfl⟩⟩
    · rw [if_neg room]
      have full : 4 ≤ x.queue.length := Nat.not_lt.mp room
      obtain ⟨r, h⟩ := updateLast_dropLast
        (fun r => es.foldl (fun acc e => acc.put p e) { r with axisList := v }) x.queue (by rintro h; simp [h] at full)
      exact .inr ⟨r, .inr ⟨full, h, rfl⟩⟩

/-- What the end of a command makes of a report queue and its alert line (R189, R191). -/
theorem State.deliverPort_queue (s : State) (p : Port) :
    ((s.deliverPort p).queue = (s.port p).queue ∧ (s.deliverPort p).alert = (s.port p).alert)
      ∨ ∃ r, ((s.port p).queue.length < 4 ∧ (s.deliverPort p).queue = (s.port p).queue ++ [r] ∧ (s.deliverPort p).alert = true)
          ∨ (4 ≤ (s.port p).queue.length ∧ (s.deliverPort p).queue = (s.port p).queue.dropLast ++ [r]
              ∧ (s.deliverPort p).alert = (s.port p).alert) := by
  unfold State.deliverPort
  simp only
  split
  · exact .inl ⟨rfl, rfl⟩
  · exact deliverTo_queue p _ _ (gatherFor p s.outbox (s.port p))

@[simp] theorem State.cutCalWrite_ports (s : State) : s.cutCalWrite.ports = s.ports := by
  unfold State.cutCalWrite
  split <;> rfl

@[simp] theorem State.cutRecipeWrite_ports (s : State) : s.cutRecipeWrite.ports = s.ports := by
  unfold State.cutRecipeWrite
  split <;> rfl

@[simp] theorem State.startCapture_ports (s : State) (r : CaptureReason) : (s.startCapture r).ports = s.ports := by
  simp only [State.startCapture, State.cutRecipeWrite_ports, State.cutCalWrite_ports]
  rfl

@[simp] theorem State.parkTest_ports (s : State) : s.parkTest.ports = s.ports := by
  unfold State.parkTest
  split <;> simp

@[simp] theorem State.serve_ports (s : State) : s.serve.ports = s.ports := by
  unfold State.serve State.serveCapture State.serveRegions
  (repeat' split) <;> rfl

/-- A command's end delivers to each port once, from the state after the park test (R189). -/
theorem State.finish_port (s : State) (p : Port) : s.finish.port p = s.parkTest.deliverPort p := by
  simp only [State.finish, State.port, State.serve_ports]
  cases p <;> rfl

@[simp] theorem State.finish_held (s : State) (p : Port) : (s.finish.port p).held = (s.port p).held := by
  rw [State.finish_port, (State.deliverPort_keeps _ _).1, State.port, State.parkTest_ports]; rfl

@[simp] theorem State.finish_frameErrors (s : State) (p : Port) : (s.finish.port p).frameErrors = (s.port p).frameErrors := by
  rw [State.finish_port, (State.deliverPort_keeps _ _).2.1, State.port, State.parkTest_ports]; rfl

@[simp] theorem State.finish_axisMask (s : State) (p : Port) : (s.finish.port p).axisMask = (s.port p).axisMask := by
  rw [State.finish_port, (State.deliverPort_keeps _ _).2.2.1, State.port, State.parkTest_ports]; rfl

@[simp] theorem State.finish_causeMask (s : State) (p : Port) : (s.finish.port p).causeMask = (s.port p).causeMask := by
  rw [State.finish_port, (State.deliverPort_keeps _ _).2.2.2, State.port, State.parkTest_ports]; rfl

/-! ### Accessors at the end of a command -/

@[simp] theorem State.finish_record (s : State) (a : Axis) : s.finish.record a = s.record a := by
  simp [State.record]

@[simp] theorem State.finish_sensor (s : State) (a : Axis) : s.finish.sensor a = s.sensor a := by
  simp [State.sensor]

@[simp] theorem State.finish_load (s : State) (a : Axis) : s.finish.load a = s.load a := by
  simp [State.load]

@[simp] theorem State.finish_auth (s : State) (a : Axis) : s.finish.auth a = s.auth a := by
  simp [State.auth]

@[simp] theorem State.finish_run (s : State) (a : Axis) : s.finish.run a = s.run a := by
  simp [State.run]

end Sys2Proof.Machine
end

