-- ==== Sys2Proof/Laws/Outside.lean ====
section
/-! SUPPORT. What the operations of the blocks leave alone: the inputs, the timebase, the ports, retention memory, the axes outdated by the
earlier commands of the µs, and the queue of commands. -/
-- The many small lemmas of this file are checked one after the other: side by side they would need more threads than the
-- memory limit of the check allows.
set_option Elab.async false
set_option linter.all false

namespace Sys2Proof.Machine

/-- The parts of the state that only the ends of commands, resets, the passing of time and the retention link change. -/
structure Outside where
  supply : Bool
  resetInput : Bool
  now : Micros
  ports : PerPort PortState
  retention : Memory
  outdatedNow : AxisSet
  pending : List Instr

/-- The outside parts of a state. -/
def State.outside (s : State) : Outside :=
  { supply := s.supply, resetInput := s.resetInput, now := s.now, ports := s.ports, retention := s.retention
    outdatedNow := s.outdatedNow, pending := s.pending }

theorem foldl_outside {α : Type} (f : State → α → State) (h : ∀ s x, (f s x).outside = s.outside) (l : List α) (s : State) :
    (l.foldl f s).outside = s.outside := by
  induction l generalizing s with
  | nil => rfl
  | cons x l ih => rw [List.foldl_cons, ih, h]

@[simp] theorem State.setRecord_outside (s : State) (a : Axis) (x : AxisRecord) : (s.setRecord a x).outside = s.outside := rfl
@[simp] theorem State.setSensor_outside (s : State) (a : Axis) (x : SensorState) : (s.setSensor a x).outside = s.outside := rfl
@[simp] theorem State.setLoad_outside (s : State) (a : Axis) (x : LoadState) : (s.setLoad a x).outside = s.outside := rfl
@[simp] theorem State.setAuth_outside (s : State) (a : Axis) (x : AuthEntry) : (s.setAuth a x).outside = s.outside := rfl
@[simp] theorem State.setRun_outside (s : State) (a : Axis) (x : Option Run) : (s.setRun a x).outside = s.outside := rfl
@[simp] theorem State.setSettle_outside (s : State) (a : Axis) (x : Timer) : (s.setSettle a x).outside = s.outside := rfl
@[simp] theorem State.setLastRun_outside (s : State) (a : Axis) (x : Nat × RunResult) : (s.setLastRun a x).outside = s.outside := rfl
@[simp] theorem State.setChannel_outside (s : State) (x : MoveChannel) : (s.setChannel x).outside = s.outside := rfl
@[simp] theorem State.setCont_outside (s : State) (x : Continuity) : (s.setCont x).outside = s.outside := rfl
@[simp] theorem State.setPlanner_outside (s : State) (x : Planner) : (s.setPlanner x).outside = s.outside := rfl
@[simp] theorem State.setCal_outside (s : State) (x : CalStore) : (s.setCal x).outside = s.outside := rfl
@[simp] theorem State.setRecipes_outside (s : State) (x : RecipeStore) : (s.setRecipes x).outside = s.outside := rfl
@[simp] theorem State.setLink_outside (s : State) (x : Option LinkByte) : (s.setLink x).outside = s.outside := rfl
@[simp] theorem State.emit_outside (s : State) (e : ReportEvent) : (s.emit e).outside = s.outside := rfl
@[simp] theorem State.wantParkTest_outside (s : State) : (s.wantParkTest).outside = s.outside := rfl
@[simp] theorem State.noteOutdated_outside (s : State) (a : Axis) : (s.noteOutdated a).outside = s.outside := rfl
@[simp] theorem State.useFree_outside (s : State) : (s.useFree).outside = s.outside := rfl
@[simp] theorem State.setAllMoving_outside (s : State) (m : AxisSet) : (s.setAllMoving m).outside = s.outside := rfl

@[simp] theorem State.setMovingSince_outside (s : State) (a : Axis) (v : Bool) : (State.setMovingSince s a v).outside = s.outside := by
  simp only [State.setMovingSince]
  (repeat' split) <;> (try simp) <;> (try rfl)

@[simp] theorem State.markOutdated_outside (s : State) (a : Axis) : (State.markOutdated s a).outside = s.outside := by
  simp only [State.markOutdated]
  (repeat' split) <;> (try simp) <;> (try rfl)

@[simp] theorem State.outdate_outside (s : State) (a : Axis) : (State.outdate s a).outside = s.outside := by
  simp [State.outdate]

@[simp] theorem State.motionTest_outside (s : State) (a : Axis) : (State.motionTest s a).outside = s.outside := by
  simp only [State.motionTest]
  (repeat' split) <;> (try simp) <;> (try rfl)

@[simp] theorem State.evaluate_outside (s : State) (fromSourceState : Bool) (a : Axis) : (State.evaluate s fromSourceState a).outside = s.outside := by
  simp only [State.evaluate]
  (repeat' split) <;> (try simp) <;> (try rfl)

@[simp] theorem State.reevaluate_outside (s : State) (a : Axis) (c : Bool) : (s.reevaluate a c).outside = s.outside := by
  simp [State.reevaluate, foldl_outside]

@[simp] theorem State.commitRecord_outside (s : State) (a : Axis) (new0 : AxisRecord) : (State.commitRecord s a new0).outside = s.outside := by
  simp only [State.commitRecord]
  (repeat' split) <;> (try simp) <;> (try rfl)

@[simp] theorem State.queueCalWrite_outside (s : State) : (State.queueCalWrite s).outside = s.outside := by
  simp only [State.queueCalWrite]
  (repeat' split) <;> (try simp) <;> (try rfl)

@[simp] theorem State.queueRecipeWrite_outside (s : State) : (State.queueRecipeWrite s).outside = s.outside := by
  simp only [State.queueRecipeWrite]
  (repeat' split) <;> (try simp) <;> (try rfl)

@[simp] theorem State.cutCalWrite_outside (s : State) : (State.cutCalWrite s).outside = s.outside := by
  simp only [State.cutCalWrite]
  (repeat' split) <;> (try simp) <;> (try rfl)

@[simp] theorem State.cutRecipeWrite_outside (s : State) : (State.cutRecipeWrite s).outside = s.outside := by
  simp only [State.cutRecipeWrite]
  (repeat' split) <;> (try simp) <;> (try rfl)

@[simp] theorem State.startByte_outside (s : State) (o : LinkOwner) (addr : Nat) (v : Byte) : (State.startByte s o addr v).outside = s.outside := by
  simp only [State.startByte]
  (repeat' split) <;> (try simp) <;> (try rfl)

@[simp] theorem State.serveCapture_outside (s : State) (cap : Capture) : (State.serveCapture s cap).outside = s.outside := by
  simp only [State.serveCapture]
  (repeat' split) <;> (try simp) <;> (try rfl)

@[simp] theorem State.serveRegions_outside (s : State) : (State.serveRegions s).outside = s.outside := by
  simp only [State.serveRegions]
  (repeat' split) <;> (try simp) <;> (try rfl)

@[simp] theorem State.serve_outside (s : State) : (State.serve s).outside = s.outside := by
  simp only [State.serve]
  (repeat' split) <;> (try simp) <;> (try rfl)

@[simp] theorem State.startCapture_outside (s : State) (reason : CaptureReason) : (State.startCapture s reason).outside = s.outside := by
  simp only [State.startCapture]
  (repeat' split) <;> (try simp) <;> (try rfl)

@[simp] theorem State.endHoldup_outside (s : State) : (State.endHoldup s).outside = s.outside := by
  simp only [State.endHoldup]
  (repeat' split) <;> (try simp) <;> (try rfl)

@[simp] theorem State.commitSlot_outside (s : State) (cap : Capture) : (State.commitSlot s cap).outside = s.outside := by
  simp only [State.commitSlot]
  (repeat' split) <;> (try simp) <;> (try rfl)

@[simp] theorem State.takeOwed_outside (s : State) : (State.takeOwed s).outside = s.outside := by
  simp only [State.takeOwed]
  (repeat' split) <;> (try simp) <;> (try rfl)

@[simp] theorem State.commitCapture_outside (s : State) (cap : Capture) : (State.commitCapture s cap).outside = s.outside := by
  simp only [State.commitCapture]
  (repeat' split) <;> (try simp) <;> (try rfl)

@[simp] theorem State.captureByteDone_outside (s : State) : (State.captureByteDone s).outside = s.outside := by
  simp only [State.captureByteDone]
  (repeat' split) <;> (try simp) <;> (try rfl)

@[simp] theorem State.updateClassTimer_outside (s : State) (a : Axis) : (State.updateClassTimer s a).outside = s.outside := by
  simp only [State.updateClassTimer]
  (repeat' split) <;> (try simp) <;> (try rfl)

@[simp] theorem State.parkBegin_outside (s : State) : (State.parkBegin s).outside = s.outside := by
  simp only [State.parkBegin]
  (repeat' split) <;> (try simp) <;> (try rfl)

@[simp] theorem State.parkEnd_outside (s : State) : (State.parkEnd s).outside = s.outside := by
  simp only [State.parkEnd]
  (repeat' split) <;> (try simp) <;> (try rfl)

@[simp] theorem State.examineParked_outside (s : State) : (State.examineParked s).outside = s.outside := by
  simp only [State.examineParked]
  (repeat' split) <;> (try simp) <;> (try rfl)

@[simp] theorem State.setAtRest_outside (s : State) (a : Axis) (v : Bool) : (State.setAtRest s a v).outside = s.outside := by
  simp only [State.setAtRest]
  (repeat' split) <;> (try simp) <;> (try rfl)

@[simp] theorem State.setBrake_outside (s : State) (a : Axis) (v : Bool) : (State.setBrake s a v).outside = s.outside := by
  simp only [State.setBrake]
  (repeat' split) <;> (try simp) <;> (try rfl)

@[simp] theorem State.parkTest_outside (s : State) : (State.parkTest s).outside = s.outside := by
  simp only [State.parkTest]
  (repeat' split) <;> (try simp) <;> (try rfl)

@[simp] theorem State.setLoadClass_outside (s : State) (a : Axis) (k : LoadClass) : (State.setLoadClass s a k).outside = s.outside := by
  simp only [State.setLoadClass]
  (repeat' split) <;> (try simp) <;> (try rfl)

@[simp] theorem State.classifyAtRest_outside (s : State) (a : Axis) : (State.classifyAtRest s a).outside = s.outside := by
  simp only [State.classifyAtRest]
  (repeat' split) <;> (try simp) <;> (try rfl)

@[simp] theorem State.classifySample_outside (s : State) (a : Axis) : (State.classifySample s a).outside = s.outside := by
  simp only [State.classifySample]
  (repeat' split) <;> (try simp) <;> (try rfl)

@[simp] theorem State.orderAccepted_outside (s : State) (o : Order) : (State.orderAccepted s o).outside = s.outside := by
  simp only [State.orderAccepted]
  (repeat' split) <;> (try simp) <;> (try rfl)

@[simp] theorem State.orderStopped_outside (s : State) (a : Axis) : (State.orderStopped s a).outside = s.outside := by
  simp only [State.orderStopped]
  (repeat' split) <;> (try simp) <;> (try rfl)

@[simp] theorem State.orderEnded_outside (s : State) (a : Axis) : (State.orderEnded s a).outside = s.outside := by
  simp only [State.orderEnded]
  (repeat' split) <;> (try simp) <;> (try rfl)

@[simp] theorem State.setWatch_outside (s : State) (a : Axis) (w : IndexWatch) : (State.setWatch s a w).outside = s.outside := by
  simp only [State.setWatch]
  (repeat' split) <;> (try simp) <;> (try rfl)

@[simp] theorem State.postOrder_outside (s : State) (a : Axis) (r : Run) (body : StepBody) (o : OrderParts) : (State.postOrder s a r body o).outside = s.outside := by
  simp only [State.postOrder]
  (repeat' split) <;> (try simp) <;> (try rfl)

@[simp] theorem State.postHead_outside (s : State) (a : Axis) : (State.postHead s a).outside = s.outside := by
  simp only [State.postHead]
  (repeat' split) <;> (try simp) <;> (try rfl)

@[simp] theorem State.postIfFree_outside (s : State) : (State.postIfFree s).outside = s.outside := by
  simp only [State.postIfFree]
  (repeat' split) <;> (try simp) <;> (try rfl)

@[simp] theorem State.joinQueue_outside (s : State) (a : Axis) (r : Run) : (State.joinQueue s a r).outside = s.outside := by
  simp only [State.joinQueue]
  (repeat' split) <;> (try simp) <;> (try rfl)

@[simp] theorem State.leaveQueue_outside (s : State) (a : Axis) : (State.leaveQueue s a).outside = s.outside := by
  simp only [State.leaveQueue]
  (repeat' split) <;> (try simp) <;> (try rfl)

@[simp] theorem State.postStop_outside (s : State) : (State.postStop s).outside = s.outside := by
  simp only [State.postStop]
  (repeat' split) <;> (try simp) <;> (try rfl)

@[simp] theorem State.detachOrder_outside (s : State) (a : Axis) : (State.detachOrder s a).outside = s.outside := by
  simp only [State.detachOrder]
  (repeat' split) <;> (try simp) <;> (try rfl)

@[simp] theorem State.endRunOf_outside (s : State) (a : Axis) (r : Run) (res : RunResult) : (State.endRunOf s a r res).outside = s.outside := by
  simp only [State.endRunOf]
  (repeat' split) <;> (try simp) <;> (try rfl)

@[simp] theorem State.endRun_outside (s : State) (a : Axis) (res : RunResult) : (State.endRun s a res).outside = s.outside := by
  simp only [State.endRun]
  (repeat' split) <;> (try simp) <;> (try rfl)

@[simp] theorem State.stopRun_outside (s : State) (a : Axis) (r : Run) (phase : RunPhase) (pending : Option RunResult) : (State.stopRun s a r phase pending).outside = s.outside := by
  simp only [State.stopRun]
  (repeat' split) <;> (try simp) <;> (try rfl)

@[simp] theorem State.abortRun_outside (s : State) (a : Axis) (res : RunResult) : (State.abortRun s a res).outside = s.outside := by
  simp only [State.abortRun]
  (repeat' split) <;> (try simp) <;> (try rfl)

@[simp] theorem State.advanceRun_outside (s : State) (a : Axis) : (State.advanceRun s a).outside = s.outside := by
  simp only [State.advanceRun]
  (repeat' split) <;> (try simp) <;> (try rfl)

@[simp] theorem State.shiftAnchor_outside (s : State) (a : Axis) (by_ : Int) : (State.shiftAnchor s a by_).outside = s.outside := by
  simp only [State.shiftAnchor]
  (repeat' split) <;> (try simp) <;> (try rfl)

theorem State.rebase_outside {s s' : State} {a : Axis} {latch : Int} (h : s.rebase a latch = some s') : s'.outside = s.outside := by
  unfold State.rebase at h
  dsimp only at h
  split at h
  · simp only [Option.some.injEq] at h
    simp [← h]
  · simp at h

/-- The state that a step's result carries. -/
def StepResult.state : StepResult → State
  | .done s => s
  | .waits s => s
  | .ends s _ => s

theorem State.takeMark_outside (s : State) (a : Axis) (r : Run) : (s.takeMark a r).state.outside = s.outside := by
  unfold State.takeMark
  split
  · rfl
  · split
    · rfl
    · rename_i h
      simp [StepResult.state, State.rebase_outside h]

theorem State.takeStep_outside (s : State) (a : Axis) (r : Run) (b : StepBody) : (s.takeStep a r b).state.outside = s.outside := by
  cases b with
  | mark => exact State.takeMark_outside s a r
  | verifyCoarse => simp only [State.takeStep, State.takeVerify]; (repeat' split) <;> rfl
  | seekSwitch d v t w => simp only [State.takeStep, State.takeSwitch]; split <;> simp [StepResult.state]
  | leaveSwitch d v t w => simp only [State.takeStep, State.takeSwitch]; split <;> simp [StepResult.state]
  | settle t => simp [State.takeStep, State.takeSettle, StepResult.state]
  | _ => simp [State.takeStep, StepResult.state]

@[simp] theorem takeSteps_outside (a : Axis) (l : List Step) (s : State) : (takeSteps a l s).outside = s.outside := by
  induction l generalizing s with
  | nil =>
    unfold takeSteps
    split <;> simp
  | cons st rest ih =>
    unfold takeSteps
    split
    · rfl
    · rename_i r _
      split
      · have hs := State.takeStep_outside s a r st.body
        split <;> rename_i h <;> rw [h] at hs <;> simp_all [StepResult.state]
      · simp [ih]

@[simp] theorem State.continueRun_outside (s : State) (a : Axis) : (s.continueRun a).outside = s.outside := by
  unfold State.continueRun
  split <;> simp

@[simp] theorem State.stepDone_outside (s : State) (a : Axis) : (State.stepDone s a).outside = s.outside := by
  simp only [State.stepDone]
  (repeat' split) <;> (try simp) <;> (try rfl)

@[simp] theorem State.meetStep_outside (s : State) (a : Axis) : (State.meetStep s a).outside = s.outside := by
  simp only [State.meetStep]
  (repeat' split) <;> (try simp) <;> (try rfl)

@[simp] theorem State.defeatStep_outside (s : State) (a : Axis) (res : RunResult) : (State.defeatStep s a res).outside = s.outside := by
  simp only [State.defeatStep]
  (repeat' split) <;> (try simp) <;> (try rfl)

@[simp] theorem State.switchEvent_outside (s : State) (a : Axis) (level : SwitchLevel) : (State.switchEvent s a level).outside = s.outside := by
  simp only [State.switchEvent]
  (repeat' split) <;> (try simp) <;> (try rfl)

@[simp] theorem State.indexCrossing_outside (s : State) (a : Axis) (c : Int) : (State.indexCrossing s a c).outside = s.outside := by
  simp only [State.indexCrossing]
  (repeat' split) <;> (try simp) <;> (try rfl)

@[simp] theorem State.contactEvent_outside (s : State) (a : Axis) : (State.contactEvent s a).outside = s.outside := by
  simp only [State.contactEvent]
  (repeat' split) <;> (try simp) <;> (try rfl)

@[simp] theorem State.loadCheckEvent_outside (s : State) (a : Axis) (k : LoadClass) : (State.loadCheckEvent s a k).outside = s.outside := by
  simp only [State.loadCheckEvent]
  (repeat' split) <;> (try simp) <;> (try rfl)

@[simp] theorem State.endMoving_outside (s : State) (a : Axis) (r : Run) (o : MoveOutcome) : (State.endMoving s a r o).outside = s.outside := by
  simp only [State.endMoving]
  (repeat' split) <;> (try simp) <;> (try rfl)

@[simp] theorem State.moveEnded_outside (s : State) (a : Axis) (o : MoveOutcome) : (State.moveEnded s a o).outside = s.outside := by
  simp only [State.moveEnded]
  (repeat' split) <;> (try simp) <;> (try rfl)

@[simp] theorem State.loseRun_outside (s : State) (a : Axis) : (State.loseRun s a).outside = s.outside := by
  simp only [State.loseRun]
  (repeat' split) <;> (try simp) <;> (try rfl)

@[simp] theorem State.emptySlot_outside (s : State) : (State.emptySlot s).outside = s.outside := by
  simp only [State.emptySlot]
  (repeat' split) <;> (try simp) <;> (try rfl)

@[simp] theorem State.powerFailEvent_outside (s : State) : (State.powerFailEvent s).outside = s.outside := by
  simp only [State.powerFailEvent]
  (repeat' split) <;> (try simp [foldl_outside]) <;> (try rfl)

@[simp] theorem State.decideAxis_outside (s : State) (a : Axis) (rest : List Axis) (d : RecoveryRecord) : (State.decideAxis s a rest d).outside = s.outside := by
  simp only [State.decideAxis]
  (repeat' split) <;> (try simp) <;> (try rfl)

@[simp] theorem State.endRecovery_outside (s : State) : (State.endRecovery s).outside = s.outside := by
  simp only [State.endRecovery]
  (repeat' split) <;> (try simp) <;> (try rfl)

@[simp] theorem runWorklist_outside (w : List Axis) (s : State) : (runWorklist w s).outside = s.outside := by
  induction w generalizing s with
  | nil => simp [runWorklist]
  | cons a rest ih =>
    unfold runWorklist
    (repeat' split) <;> simp [ih]

@[simp] theorem State.takeWorklist_outside (s : State) : s.takeWorklist.outside = s.outside := by
  unfold State.takeWorklist
  split <;> simp

@[simp] theorem State.takeHead_outside (s : State) (a : Axis) : (State.takeHead s a).outside = s.outside := by
  simp only [State.takeHead]
  (repeat' split) <;> (try simp) <;> (try rfl)

@[simp] theorem State.noteDisturbed_outside (s : State) (a : Axis) : (State.noteDisturbed s a).outside = s.outside := by
  simp only [State.noteDisturbed]
  (repeat' split) <;> (try simp) <;> (try rfl)

@[simp] theorem State.noteRead_outside (s : State) (a : Axis) (fine : Nat) : (State.noteRead s a fine).outside = s.outside := by
  simp only [State.noteRead]
  (repeat' split) <;> (try simp) <;> (try rfl)

@[simp] theorem State.lossEvent_outside (s : State) (a : Axis) (cause : LossCause) (turn : Int) (fine : Nat) : (State.lossEvent s a cause turn fine).outside = s.outside := by
  simp only [State.lossEvent]
  (repeat' split) <;> (try simp) <;> (try rfl)

@[simp] theorem State.anchorHere_outside (s : State) (a : Axis) : (State.anchorHere s a).outside = s.outside := by
  simp only [State.anchorHere]
  (repeat' split) <;> (try simp) <;> (try rfl)

@[simp] theorem State.detectRest_outside (s : State) (a : Axis) : (State.detectRest s a).outside = s.outside := by
  simp only [State.detectRest]
  (repeat' split) <;> (try simp) <;> (try rfl)

@[simp] theorem State.testCrossing_outside (s : State) (a : Axis) (old new : Int) : (State.testCrossing s a old new).outside = s.outside := by
  simp only [State.testCrossing]
  (repeat' split) <;> (try simp) <;> (try rfl)

@[simp] theorem State.sensorLost_outside (s : State) (a : Axis) : (State.sensorLost s a).outside = s.outside := by
  simp only [State.sensorLost]
  (repeat' split) <;> (try simp) <;> (try rfl)

@[simp] theorem State.failedRead_outside (s : State) (a : Axis) : (State.failedRead s a).outside = s.outside := by
  simp only [State.failedRead]
  (repeat' split) <;> (try simp) <;> (try rfl)

@[simp] theorem State.startTracking_outside (s : State) (a : Axis) (fine : Nat) : (State.startTracking s a fine).outside = s.outside := by
  simp only [State.startTracking]
  (repeat' split) <;> (try simp) <;> (try rfl)

@[simp] theorem State.restartTracking_outside (s : State) (a : Axis) : (State.restartTracking s a).outside = s.outside := by
  simp only [State.restartTracking]
  (repeat' split) <;> (try simp) <;> (try rfl)

@[simp] theorem State.advanceCount_outside (s : State) (a : Axis) (turn : Int) (fine : Nat) : (State.advanceCount s a turn fine).outside = s.outside := by
  simp only [State.advanceCount]
  (repeat' split) <;> (try simp) <;> (try rfl)

@[simp] theorem State.trackRead_outside (s : State) (a : Axis) (fine : Nat) : (State.trackRead s a fine).outside = s.outside := by
  simp only [State.trackRead]
  (repeat' split) <;> (try simp) <;> (try rfl)

@[simp] theorem State.takeRead_outside (s : State) (a : Axis) (frame : List Bool) : (State.takeRead s a frame).outside = s.outside := by
  simp only [State.takeRead]
  (repeat' split) <;> (try simp) <;> (try rfl)

@[simp] theorem State.setSwitch_outside (s : State) (a : Axis) (level : SwitchLevel) : (State.setSwitch s a level).outside = s.outside := by
  simp only [State.setSwitch]
  (repeat' split) <;> (try simp) <;> (try rfl)

@[simp] theorem State.switchDiffers_outside (s : State) (a : Axis) (level : SwitchLevel) : (State.switchDiffers s a level).outside = s.outside := by
  simp only [State.switchDiffers]
  (repeat' split) <;> (try simp) <;> (try rfl)

@[simp] theorem State.sampleSwitch_outside (s : State) (a : Axis) (level : SwitchLevel) : (State.sampleSwitch s a level).outside = s.outside := by
  simp only [State.sampleSwitch]
  (repeat' split) <;> (try simp) <;> (try rfl)

@[simp] theorem State.sampleBrake_outside (s : State) (a : Axis) (level : BrakeLevel) : (State.sampleBrake s a level).outside = s.outside := by
  simp only [State.sampleBrake]
  (repeat' split) <;> (try simp) <;> (try rfl)

@[simp] theorem State.sampleCoarse_outside (s : State) (a : Axis) (code : Nat) : (State.sampleCoarse s a code).outside = s.outside := by
  simp only [State.sampleCoarse]
  (repeat' split) <;> (try simp) <;> (try rfl)

@[simp] theorem State.watchSample_outside (s : State) (a : Axis) (m : Nat) : (State.watchSample s a m).outside = s.outside := by
  simp only [State.watchSample]
  (repeat' split) <;> (try simp) <;> (try rfl)

@[simp] theorem State.sampleCurrent_outside (s : State) (a : Axis) (v : BitVec 16) : (State.sampleCurrent s a v).outside = s.outside := by
  simp only [State.sampleCurrent]
  (repeat' split) <;> (try simp) <;> (try rfl)

@[simp] theorem State.crossCheckAxis_outside (s : State) (a : Axis) : (State.crossCheckAxis s a).outside = s.outside := by
  simp only [State.crossCheckAxis]
  (repeat' split) <;> (try simp) <;> (try rfl)

@[simp] theorem State.crossCheck_outside (s : State) : (State.crossCheck s).outside = s.outside := by
  simp only [State.crossCheck]
  (repeat' split) <;> (try simp [foldl_outside]) <;> (try rfl)

@[simp] theorem State.allCalInvalid_outside (s : State) : (State.allCalInvalid s).outside = s.outside := by
  simp only [State.allCalInvalid]
  (repeat' split) <;> (try simp [foldl_outside]) <;> (try rfl)

@[simp] theorem State.loadCalibration_outside (s : State) : (State.loadCalibration s).outside = s.outside := by
  simp only [State.loadCalibration]
  (repeat' split) <;> (try simp) <;> (try rfl)

@[simp] theorem State.loadRecipes_outside (s : State) : (State.loadRecipes s).outside = s.outside := by
  simp only [State.loadRecipes]
  (repeat' split) <;> (try simp) <;> (try rfl)

@[simp] theorem State.pfwCapture_outside (s : State) : (State.pfwCapture s).outside = s.outside := by
  simp only [State.pfwCapture]
  (repeat' split) <;> (try simp) <;> (try rfl)

@[simp] theorem State.pfwAssertion_outside (s : State) : (State.pfwAssertion s).outside = s.outside := by
  simp only [State.pfwAssertion]
  (repeat' split) <;> (try simp) <;> (try rfl)

@[simp] theorem State.assertPfw_outside (s : State) : (State.assertPfw s).outside = s.outside := by
  simp only [State.assertPfw]
  (repeat' split) <;> (try simp) <;> (try rfl)

@[simp] theorem State.deassertPfw_outside (s : State) : (State.deassertPfw s).outside = s.outside := by
  simp only [State.deassertPfw]
  (repeat' split) <;> (try simp) <;> (try rfl)

@[simp] theorem State.assertionAtStart_outside (s : State) : (State.assertionAtStart s).outside = s.outside := by
  simp only [State.assertionAtStart]
  (repeat' split) <;> (try simp) <;> (try rfl)

@[simp] theorem State.examineSlots_outside (s : State) : (State.examineSlots s).outside = s.outside := by
  simp only [State.examineSlots]
  (repeat' split) <;> (try simp) <;> (try rfl)

@[simp] theorem State.startWithout_outside (s : State) : (State.startWithout s).outside = s.outside := by
  simp only [State.startWithout]
  (repeat' split) <;> (try simp) <;> (try rfl)

@[simp] theorem State.startRecovery_outside (s : State) : (State.startRecovery s).outside = s.outside := by
  simp only [State.startRecovery]
  (repeat' split) <;> (try simp) <;> (try rfl)

@[simp] theorem State.completeStartup_outside (s : State) : (State.completeStartup s).outside = s.outside := by
  simp only [State.completeStartup]
  (repeat' split) <;> (try simp) <;> (try rfl)

@[simp] theorem State.classExpiry_outside (s : State) (a : Axis) : (State.classExpiry s a).outside = s.outside := by
  simp only [State.classExpiry]
  (repeat' split) <;> (try simp) <;> (try rfl)

@[simp] theorem State.loadSampleExpiry_outside (s : State) (a : Axis) : (State.loadSampleExpiry s a).outside = s.outside := by
  simp only [State.loadSampleExpiry]
  (repeat' split) <;> (try simp) <;> (try rfl)

@[simp] theorem State.ignoreExpiry_outside (s : State) (a : Axis) : (State.ignoreExpiry s a).outside = s.outside := by
  simp only [State.ignoreExpiry]
  (repeat' split) <;> (try simp) <;> (try rfl)

@[simp] theorem State.permitExpiry_outside (s : State) (a : Axis) : (State.permitExpiry s a).outside = s.outside := by
  simp only [State.permitExpiry]
  (repeat' split) <;> (try simp) <;> (try rfl)

@[simp] theorem State.settleExpiry_outside (s : State) (a : Axis) : (State.settleExpiry s a).outside = s.outside := by
  simp only [State.settleExpiry]
  (repeat' split) <;> (try simp) <;> (try rfl)

@[simp] theorem State.stepExpiry_outside (s : State) : (State.stepExpiry s).outside = s.outside := by
  simp only [State.stepExpiry]
  (repeat' split) <;> (try simp) <;> (try rfl)

@[simp] theorem State.acceptExpiry_outside (s : State) : (State.acceptExpiry s).outside = s.outside := by
  simp only [State.acceptExpiry]
  (repeat' split) <;> (try simp) <;> (try rfl)

@[simp] theorem State.stopExpiry_outside (s : State) : (State.stopExpiry s).outside = s.outside := by
  simp only [State.stopExpiry]
  (repeat' split) <;> (try simp) <;> (try rfl)

@[simp] theorem State.parkExpiry_outside (s : State) : (State.parkExpiry s).outside = s.outside := by
  simp only [State.parkExpiry]
  (repeat' split) <;> (try simp) <;> (try rfl)

@[simp] theorem State.sensorWaitExpiry_outside (s : State) : (State.sensorWaitExpiry s).outside = s.outside := by
  simp only [State.sensorWaitExpiry]
  (repeat' split) <;> (try simp) <;> (try rfl)

@[simp] theorem State.dropEdit_outside (s : State) (a : Axis) : (State.dropEdit s a).outside = s.outside := by
  simp only [State.dropEdit]
  (repeat' split) <;> (try simp) <;> (try rfl)

@[simp] theorem State.setClaim_outside (s : State) (a : Axis) (c : Option Claimant) : (State.setClaim s a c).outside = s.outside := by
  simp only [State.setClaim]
  (repeat' split) <;> (try simp) <;> (try rfl)

@[simp] theorem State.releaseRunOf_outside (s : State) (a : Axis) (owner : Claimant) : (State.releaseRunOf s a owner).outside = s.outside := by
  simp only [State.releaseRunOf]
  (repeat' split) <;> (try simp) <;> (try rfl)

@[simp] theorem State.claimAxis_outside (c : Claimant) (s : State) (a : Axis) : (State.claimAxis c s a).outside = s.outside := by
  simp only [State.claimAxis]
  (repeat' split) <;> (try simp) <;> (try rfl)

@[simp] theorem State.releaseAxis_outside (c : Claimant) (s : State) (a : Axis) : (State.releaseAxis c s a).outside = s.outside := by
  simp only [State.releaseAxis]
  (repeat' split) <;> (try simp) <;> (try rfl)

@[simp] theorem State.forceReleaseAxis_outside (s : State) (a : Axis) : (State.forceReleaseAxis s a).outside = s.outside := by
  simp only [State.forceReleaseAxis]
  (repeat' split) <;> (try simp) <;> (try rfl)

@[simp] theorem State.inhibitAxis_outside (s : State) (a : Axis) : (State.inhibitAxis s a).outside = s.outside := by
  simp only [State.inhibitAxis]
  (repeat' split) <;> (try simp) <;> (try rfl)

@[simp] theorem State.uninhibitAxis_outside (s : State) (a : Axis) : (State.uninhibitAxis s a).outside = s.outside := by
  simp only [State.uninhibitAxis]
  (repeat' split) <;> (try simp) <;> (try rfl)

@[simp] theorem State.takePair_outside (s : State) (a : Axis) (epoch : BitVec 16) : (State.takePair s a epoch).outside = s.outside := by
  simp only [State.takePair]
  (repeat' split) <;> (try simp) <;> (try rfl)

@[simp] theorem State.grant_outside (s : State) (a : Axis) : (State.grant s a).outside = s.outside := by
  simp only [State.grant]
  (repeat' split) <;> (try simp) <;> (try rfl)

@[simp] theorem State.refusePermit_outside (s : State) (a : Axis) : (State.refusePermit s a).outside = s.outside := by
  simp only [State.refusePermit]
  (repeat' split) <;> (try simp) <;> (try rfl)

@[simp] theorem State.createRun_outside (s : State) (a : Axis) (owner : Claimant) : (State.createRun s a owner).outside = s.outside := by
  simp only [State.createRun]
  (repeat' split) <;> (try simp) <;> (try rfl)

@[simp] theorem State.requestPermit_outside (s : State) (a : Axis) (id : Nat) : (State.requestPermit s a id).outside = s.outside := by
  simp only [State.requestPermit]
  (repeat' split) <;> (try simp) <;> (try rfl)

@[simp] theorem State.clearSticky_outside (s : State) (m : AxisSet) (f : StickyFlags) : (State.clearSticky s m f).outside = s.outside := by
  simp only [State.clearSticky]
  (repeat' split) <;> (try simp) <;> (try rfl)

@[simp] theorem State.runMoves_outside (s : State) (a : Axis) : (State.runMoves s a).outside = s.outside := by
  simp only [State.runMoves]
  (repeat' split) <;> (try simp) <;> (try rfl)

@[simp] theorem State.acceptOrder_outside (s : State) : (State.acceptOrder s).outside = s.outside := by
  simp only [State.acceptOrder]
  (repeat' split) <;> (try simp) <;> (try rfl)

@[simp] theorem State.endOrder_outside (s : State) (out : MoveOutcome) : (State.endOrder s out).outside = s.outside := by
  simp only [State.endOrder]
  (repeat' split) <;> (try simp) <;> (try rfl)

@[simp] theorem State.freeSlot_outside (s : State) : (State.freeSlot s).outside = s.outside := by
  simp only [State.freeSlot]
  (repeat' split) <;> (try simp) <;> (try rfl)

@[simp] theorem State.restartProfile_outside (s : State) (a : Axis) : (State.restartProfile s a).outside = s.outside := by
  simp only [State.restartProfile]
  (repeat' split) <;> (try simp) <;> (try rfl)

@[simp] theorem State.applyCommit_outside (old new : CalSet) (s : State) (a : Axis) : (State.applyCommit old new s a).outside = s.outside := by
  simp only [State.applyCommit]
  (repeat' split) <;> (try simp) <;> (try rfl)

@[simp] theorem State.renewFingerprint_outside (s : State) : (State.renewFingerprint s).outside = s.outside := by
  simp only [State.renewFingerprint]
  (repeat' split) <;> (try simp) <;> (try rfl)

@[simp] theorem State.outdateChanged_outside (old new : CalSet) (s : State) (a : Axis) : (State.outdateChanged old new s a).outside = s.outside := by
  simp only [State.outdateChanged]
  (repeat' split) <;> (try simp) <;> (try rfl)

@[simp] theorem State.commitCalibration_outside (s : State) (c : Claimant) : (State.commitCalibration s c).outside = s.outside := by
  simp only [State.commitCalibration]
  (repeat' split) <;> (try simp [foldl_outside]) <;> (try rfl)

@[simp] theorem State.commitRecipes_outside (s : State) : (State.commitRecipes s).outside = s.outside := by
  simp only [State.commitRecipes]
  (repeat' split) <;> (try simp) <;> (try rfl)

@[simp] theorem State.discardSlots_outside (s : State) : (State.discardSlots s).outside = s.outside := by
  simp only [State.discardSlots]
  (repeat' split) <;> (try simp) <;> (try rfl)

@[simp] theorem State.byteDone_outside (s : State) (o : LinkOwner) : (s.byteDone o).outside = s.outside := by
  cases o <;> simp [State.byteDone]

@[simp] theorem takePairs_outside (l : List (Axis × BitVec 16)) (s : State) : (takePairs l s).1.outside = s.outside := by
  induction l generalizing s with
  | nil => rfl
  | cons x l ih =>
    obtain ⟨a, e⟩ := x
    simp [takePairs, ih]

end Sys2Proof.Machine
end

