-- ==== Sys2Proof/Laws/Kept.lean ====
section
/-! SUPPORT. What the operations of the blocks leave alone in the stores, in the sampled inputs, in the claims and inhibits and
in the fine angles; an operation that changes one of them has the lemmas of the others. -/
-- The many small lemmas of this file are checked one after the other: side by side they would need more threads than the
-- memory limit of the check allows.
set_option Elab.async false
set_option linter.all false

namespace Sys2Proof.Machine

/-- The Calibration Store without its write in hand. -/
structure CalParts where
  active : CalSet
  staging : CalSet
  axisEditor : PerAxis (Option Claimant)
  deviceEditor : Option Claimant
  points : PerAxis CapturePoints
  validity : Validity
  fingerprint : BitVec 32
  loaded : Bool

/-- The Calibration Store of a state without its write in hand. -/
def CalStore.parts (k : CalStore) : CalParts :=
  { active := k.active, staging := k.staging, axisEditor := k.axisEditor, deviceEditor := k.deviceEditor, points := k.points
    validity := k.validity, fingerprint := k.fingerprint, loaded := k.loaded }

/-- The Recipe Store without its write in hand. -/
structure RecipeParts where
  active : List (List Step)
  staging : List (List Step)
  validity : Validity
  loaded : Bool

/-- The Recipe Store of a state without its write in hand. -/
def RecipeStore.parts (k : RecipeStore) : RecipeParts :=
  { active := k.active, staging := k.staging, validity := k.validity, loaded := k.loaded }

/-- What the switch, brake and coarse samples write of an axis. -/
structure Sampled where
  switchLevel : SwitchLevel
  switchSampled : Bool
  switchCandidate : Option (SwitchLevel × Micros)
  brakeLevel : Option BrakeLevel
  previousBrake : Option BrakeLevel
  coarseWindow : List Nat
  coarseAverage : Option Nat

/-- What the samples wrote of a sensor's state. -/
def SensorState.sampled (x : SensorState) : Sampled :=
  { switchLevel := x.switchLevel, switchSampled := x.switchSampled, switchCandidate := x.switchCandidate, brakeLevel := x.brakeLevel
    previousBrake := x.previousBrake, coarseWindow := x.coarseWindow, coarseAverage := x.coarseAverage }

/-- The claim and the inhibit of an axis. -/
def AuthEntry.claimed (x : AuthEntry) : Option Claimant × Bool := (x.claim, x.inhibited)

/-- What most operations keep. -/
structure Kept where
  cal : CalParts
  recipes : RecipeParts
  sampled : Axis → Sampled
  windows : Axis → List (BitVec 16)
  claimed : Axis → Option Claimant × Bool
  fines : Axis → Nat
  runIdCounter : Nat
  pollingSince : Option Micros

/-- What most operations keep of a state. -/
def State.kept (s : State) : Kept :=
  { cal := s.cal.parts, recipes := s.recipes.parts, sampled := fun a => (s.sensor a).sampled
    windows := fun a => (s.load a).window, claimed := fun a => (s.auth a).claimed, fines := fun a => (s.record a).fine
    runIdCounter := s.runIdCounter, pollingSince := s.pollingSince }

theorem foldl_kept {α : Type} (f : State → α → State) (h : ∀ s x, (f s x).kept = s.kept) (l : List α) (s : State) :
    (l.foldl f s).kept = s.kept := by
  induction l generalizing s with
  | nil => rfl
  | cons x l ih => rw [List.foldl_cons, ih, h]

@[simp] theorem State.setRecord_kept (s : State) (a : Axis) (x : AxisRecord) (h : x.fine = (s.record a).fine) :
    (s.setRecord a x).kept = s.kept := by
  have : (fun b => ((s.setRecord a x).record b).fine) = fun b => (s.record b).fine := by
    funext b
    simp only [State.record, State.setRecord, PerAxis.get_set]
    split
    · rename_i e; subst e; exact h
    · rfl
  simp only [State.kept, this]
  rfl

@[simp] theorem State.setSensor_kept (s : State) (a : Axis) (x : SensorState) (h1 : x.switchLevel = (s.sensor a).switchLevel)
    (h0 : x.switchSampled = (s.sensor a).switchSampled)
    (h2 : x.switchCandidate = (s.sensor a).switchCandidate) (h3 : x.brakeLevel = (s.sensor a).brakeLevel)
    (h4 : x.previousBrake = (s.sensor a).previousBrake) (h5 : x.coarseWindow = (s.sensor a).coarseWindow)
    (h6 : x.coarseAverage = (s.sensor a).coarseAverage) :
    (s.setSensor a x).kept = s.kept := by
  have : (fun b => ((s.setSensor a x).sensor b).sampled) = fun b => (s.sensor b).sampled := by
    funext b
    simp only [State.sensor, State.setSensor, PerAxis.get_set]
    split
    · rename_i e; subst e; simp [SensorState.sampled, h0, h1, h2, h3, h4, h5, h6, State.sensor]
    · rfl
  simp only [State.kept, this]
  rfl

@[simp] theorem State.setLoad_kept (s : State) (a : Axis) (x : LoadState) (h : x.window = (s.load a).window) :
    (s.setLoad a x).kept = s.kept := by
  have : (fun b => ((s.setLoad a x).load b).window) = fun b => (s.load b).window := by
    funext b
    simp only [State.load, State.setLoad, PerAxis.get_set]
    split
    · rename_i e; subst e; exact h
    · rfl
  simp only [State.kept, this]
  rfl

@[simp] theorem State.setAuth_kept (s : State) (a : Axis) (x : AuthEntry) (h1 : x.claim = (s.auth a).claim)
    (h2 : x.inhibited = (s.auth a).inhibited) :
    (s.setAuth a x).kept = s.kept := by
  have : (fun b => ((s.setAuth a x).auth b).claimed) = fun b => (s.auth b).claimed := by
    funext b
    simp only [State.auth, State.setAuth, PerAxis.get_set]
    split
    · rename_i e; subst e; simp [AuthEntry.claimed, h1, h2, State.auth]
    · rfl
  simp only [State.kept, this]
  rfl

@[simp] theorem State.setCal_kept (s : State) (x : CalStore) (h : x.parts = s.cal.parts) : (s.setCal x).kept = s.kept := by
  simp only [State.kept, State.setCal_cal, h]
  rfl

@[simp] theorem State.setRecipes_kept (s : State) (x : RecipeStore) (h : x.parts = s.recipes.parts) :
    (s.setRecipes x).kept = s.kept := by
  simp only [State.kept, State.setRecipes_recipes, h]
  rfl

@[simp] theorem freshCount_fine (old new : AxisRecord) : (freshCount old new).fine = new.fine := by
  unfold freshCount
  split <;> rfl

@[simp] theorem afterRun_fine (r : AxisRecord) (res : RunResult) : (r.afterRun res).fine = r.fine := by
  cases res <;> rfl

@[simp] theorem withoutPermit_claim (x : AuthEntry) : x.withoutPermit.claim = x.claim := by
  unfold AuthEntry.withoutPermit
  rfl

@[simp] theorem withoutPermit_inhibited (x : AuthEntry) : x.withoutPermit.inhibited = x.inhibited := by
  unfold AuthEntry.withoutPermit
  rfl

@[simp] theorem evaluatedRecord_fine (r : AxisRecord) (c : AxisCal) (e : Evaluated) : (evaluatedRecord r c e).fine = r.fine := by
  unfold evaluatedRecord
  rfl

@[simp] theorem loseFrame_fine (r : AxisRecord) (c : LossCause) : (r.loseFrame c).fine = r.fine := by
  unfold AxisRecord.loseFrame
  rfl

@[simp] theorem recoveredRecord_fine (r : AxisRecord) (e : SnapEntry) (d : RecoveryRecord) : (recoveredRecord r e d).fine = r.fine := by
  unfold recoveredRecord
  split <;> rfl

@[simp] theorem disagree_fine (r : AxisRecord) : r.disagree.fine = r.fine := by
  unfold AxisRecord.disagree
  dsimp only
  split <;> (try split) <;> rfl

@[simp] theorem agree_fine (r : AxisRecord) : r.agree.fine = r.fine := by
  unfold AxisRecord.agree
  split <;> rfl

@[simp] theorem calInvalid_fine (r : AxisRecord) : r.calInvalid.fine = r.fine := by
  unfold AxisRecord.calInvalid
  rfl

@[simp] theorem enterHoming_fine (r : AxisRecord) (n : Nat) : (r.enterHoming n).fine = r.fine := by
  unfold AxisRecord.enterHoming
  rfl

@[simp] theorem afterCommit_fine (r : AxisRecord) (o n : AxisCal) : (r.afterCommit o n).fine = r.fine := by
  unfold AxisRecord.afterCommit AxisRecord.afterFrameChange
  dsimp only
  (repeat' split) <;> rfl

@[simp] theorem State.setAllMoving_kept (s : State) (m : AxisSet) : (s.setAllMoving m).kept = s.kept := by
  have : (fun b => ((s.setAllMoving m).record b).fine) = fun b => (s.record b).fine := by
    funext b
    simp [State.record, State.setAllMoving]
  simp only [State.kept, this]
  rfl

@[simp] theorem State.setRun_kept (s : State) (a : Axis) (x : Option Run) : (s.setRun a x).kept = s.kept := rfl
@[simp] theorem State.setSettle_kept (s : State) (a : Axis) (x : Timer) : (s.setSettle a x).kept = s.kept := rfl
@[simp] theorem State.setLastRun_kept (s : State) (a : Axis) (x : Nat × RunResult) : (s.setLastRun a x).kept = s.kept := rfl
@[simp] theorem State.setChannel_kept (s : State) (x : MoveChannel) : (s.setChannel x).kept = s.kept := rfl
@[simp] theorem State.setCont_kept (s : State) (x : Continuity) : (s.setCont x).kept = s.kept := rfl
@[simp] theorem State.setPlanner_kept (s : State) (x : Planner) : (s.setPlanner x).kept = s.kept := rfl
@[simp] theorem State.setLink_kept (s : State) (x : Option LinkByte) : (s.setLink x).kept = s.kept := rfl
@[simp] theorem State.emit_kept (s : State) (e : ReportEvent) : (s.emit e).kept = s.kept := rfl
@[simp] theorem State.wantParkTest_kept (s : State) : (s.wantParkTest).kept = s.kept := rfl
@[simp] theorem State.noteOutdated_kept (s : State) (a : Axis) : (s.noteOutdated a).kept = s.kept := rfl
@[simp] theorem State.useFree_kept (s : State) : (s.useFree).kept = s.kept := rfl

/-- What is kept but for the fine of one axis. -/
def Kept.withFine (k : Kept) (a : Axis) (n : Nat) : Kept := { k with fines := fun b => if b = a then n else k.fines b }

theorem State.withFine_self (s : State) (a : Axis) : s.kept.withFine a (s.record a).fine = s.kept := by
  have : (fun b => if b = a then (s.record a).fine else (s.record b).fine) = fun b => (s.record b).fine := by
    funext b
    split
    · rename_i e; rw [e]
    · rfl
  simp only [Kept.withFine, State.kept, this]

theorem State.setRecord_keptFine (s : State) (a : Axis) (x : AxisRecord) : (s.setRecord a x).kept = s.kept.withFine a x.fine := by
  have : (fun b => ((s.setRecord a x).record b).fine) = fun b => if b = a then x.fine else (s.record b).fine := by
    funext b
    simp only [State.record, State.setRecord, PerAxis.get_set]
    split <;> rfl
  simp only [State.kept, this]
  rfl

@[simp] theorem State.setMovingSince_kept (s : State) (a : Axis) (v : Bool) : (State.setMovingSince s a v).kept = s.kept := by
  simp only [State.setMovingSince]
  (repeat' split) <;> (try simp) <;> (try rfl)

@[simp] theorem State.markOutdated_kept (s : State) (a : Axis) : (State.markOutdated s a).kept = s.kept := by
  simp only [State.markOutdated]
  (repeat' split) <;> (try simp) <;> (try rfl)

@[simp] theorem State.outdate_kept (s : State) (a : Axis) : (State.outdate s a).kept = s.kept := by
  simp [State.outdate]

@[simp] theorem State.motionTest_kept (s : State) (a : Axis) : (State.motionTest s a).kept = s.kept := by
  simp only [State.motionTest]
  (repeat' split) <;> (try simp) <;> (try rfl)

@[simp] theorem State.evaluate_kept (s : State) (c : Bool) (a : Axis) : (s.evaluate c a).kept = s.kept := by
  unfold State.evaluate
  dsimp only
  split
  · rw [State.emit_kept, State.setRecord_kept _ _ _ (evaluatedRecord_fine _ _ _)]
  · rw [State.setRecord_kept _ _ _ (evaluatedRecord_fine _ _ _)]

@[simp] theorem State.reevaluate_kept (s : State) (a : Axis) (c : Bool) : (s.reevaluate a c).kept = s.kept := by
  simp [State.reevaluate, foldl_kept]

@[simp] theorem State.commitRecord_kept (s : State) (a : Axis) (x : AxisRecord) (h : x.fine = (s.record a).fine) : (s.commitRecord a x).kept = s.kept := by
  simp only [State.commitRecord]
  (repeat' split) <;> simp_all

theorem State.commitRecord_keptFine (s : State) (a : Axis) (x : AxisRecord) :
    (s.commitRecord a x).kept = s.kept.withFine a x.fine := by
  simp only [State.commitRecord]
  (repeat' split) <;> simp [State.setRecord_keptFine]

@[simp] theorem State.queueCalWrite_kept (s : State) : (State.queueCalWrite s).kept = s.kept := by
  simp only [State.queueCalWrite]
  (repeat' split) <;> (try simp) <;> (try rfl)

@[simp] theorem State.queueRecipeWrite_kept (s : State) : (State.queueRecipeWrite s).kept = s.kept := by
  simp only [State.queueRecipeWrite]
  (repeat' split) <;> (try simp) <;> (try rfl)

@[simp] theorem State.cutCalWrite_kept (s : State) : (State.cutCalWrite s).kept = s.kept := by
  simp only [State.cutCalWrite]
  (repeat' split) <;> (try simp) <;> (try rfl)

@[simp] theorem State.cutRecipeWrite_kept (s : State) : (State.cutRecipeWrite s).kept = s.kept := by
  simp only [State.cutRecipeWrite]
  (repeat' split) <;> (try simp) <;> (try rfl)

@[simp] theorem State.startByte_kept (s : State) (o : LinkOwner) (addr : Nat) (v : Byte) : (State.startByte s o addr v).kept = s.kept := by
  simp only [State.startByte]
  (repeat' split) <;> (try simp) <;> (try rfl)

@[simp] theorem State.serveCapture_kept (s : State) (cap : Capture) : (State.serveCapture s cap).kept = s.kept := by
  simp only [State.serveCapture]
  (repeat' split) <;> (try simp) <;> (try rfl)

@[simp] theorem State.serveRegions_kept (s : State) : (State.serveRegions s).kept = s.kept := by
  simp only [State.serveRegions]
  (repeat' split) <;> (try simp) <;> (try rfl)

@[simp] theorem State.serve_kept (s : State) : (State.serve s).kept = s.kept := by
  simp only [State.serve]
  (repeat' split) <;> (try simp) <;> (try rfl)

@[simp] theorem State.startCapture_kept (s : State) (reason : CaptureReason) : (State.startCapture s reason).kept = s.kept := by
  simp only [State.startCapture]
  (repeat' split) <;> (try simp) <;> (try rfl)

@[simp] theorem State.endHoldup_kept (s : State) : (State.endHoldup s).kept = s.kept := by
  simp only [State.endHoldup]
  (repeat' split) <;> (try simp) <;> (try rfl)

@[simp] theorem State.commitSlot_kept (s : State) (cap : Capture) : (State.commitSlot s cap).kept = s.kept := by
  simp only [State.commitSlot]
  (repeat' split) <;> (try simp) <;> (try rfl)

@[simp] theorem State.takeOwed_kept (s : State) : (State.takeOwed s).kept = s.kept := by
  simp only [State.takeOwed]
  (repeat' split) <;> (try simp) <;> (try rfl)

@[simp] theorem State.commitCapture_kept (s : State) (cap : Capture) : (State.commitCapture s cap).kept = s.kept := by
  simp only [State.commitCapture]
  (repeat' split) <;> (try simp) <;> (try rfl)

@[simp] theorem State.captureByteDone_kept (s : State) : (State.captureByteDone s).kept = s.kept := by
  simp only [State.captureByteDone]
  (repeat' split) <;> (try simp) <;> (try rfl)

@[simp] theorem State.updateClassTimer_kept (s : State) (a : Axis) : (State.updateClassTimer s a).kept = s.kept := by
  simp only [State.updateClassTimer]
  (repeat' split) <;> (try simp) <;> (try rfl)

@[simp] theorem State.parkBegin_kept (s : State) : (State.parkBegin s).kept = s.kept := by
  simp only [State.parkBegin]
  (repeat' split) <;> (try simp) <;> (try rfl)

@[simp] theorem State.parkEnd_kept (s : State) : (State.parkEnd s).kept = s.kept := by
  simp only [State.parkEnd]
  (repeat' split) <;> (try simp) <;> (try rfl)

@[simp] theorem State.examineParked_kept (s : State) : (State.examineParked s).kept = s.kept := by
  simp only [State.examineParked]
  (repeat' split) <;> (try simp) <;> (try rfl)

@[simp] theorem State.setAtRest_kept (s : State) (a : Axis) (v : Bool) : (State.setAtRest s a v).kept = s.kept := by
  simp only [State.setAtRest]
  (repeat' split) <;> (try simp) <;> (try rfl)

@[simp] theorem State.setBrake_kept (s : State) (a : Axis) (v : Bool) : (State.setBrake s a v).kept = s.kept := by
  simp only [State.setBrake]
  (repeat' split) <;> (try simp) <;> (try rfl)

@[simp] theorem State.parkTest_kept (s : State) : (State.parkTest s).kept = s.kept := by
  simp only [State.parkTest]
  (repeat' split) <;> (try simp) <;> (try rfl)

@[simp] theorem State.setLoadClass_kept (s : State) (a : Axis) (k : LoadClass) : (State.setLoadClass s a k).kept = s.kept := by
  simp only [State.setLoadClass]
  (repeat' split) <;> (try simp) <;> (try rfl)

@[simp] theorem State.classifyAtRest_kept (s : State) (a : Axis) : (State.classifyAtRest s a).kept = s.kept := by
  simp only [State.classifyAtRest]
  (repeat' split) <;> (try simp) <;> (try rfl)

@[simp] theorem State.classifySample_kept (s : State) (a : Axis) : (State.classifySample s a).kept = s.kept := by
  simp only [State.classifySample]
  (repeat' split) <;> (try simp) <;> (try rfl)

@[simp] theorem State.orderAccepted_kept (s : State) (o : Order) : (State.orderAccepted s o).kept = s.kept := by
  simp only [State.orderAccepted]
  (repeat' split) <;> (try simp) <;> (try rfl)

@[simp] theorem State.orderStopped_kept (s : State) (a : Axis) : (State.orderStopped s a).kept = s.kept := by
  simp only [State.orderStopped]
  (repeat' split) <;> (try simp) <;> (try rfl)

@[simp] theorem State.orderEnded_kept (s : State) (a : Axis) : (State.orderEnded s a).kept = s.kept := by
  simp only [State.orderEnded]
  (repeat' split) <;> (try simp) <;> (try rfl)

@[simp] theorem State.setWatch_kept (s : State) (a : Axis) (w : IndexWatch) : (State.setWatch s a w).kept = s.kept := by
  simp only [State.setWatch]
  (repeat' split) <;> (try simp) <;> (try rfl)

@[simp] theorem State.postOrder_kept (s : State) (a : Axis) (r : Run) (body : StepBody) (o : OrderParts) : (State.postOrder s a r body o).kept = s.kept := by
  simp only [State.postOrder]
  (repeat' split) <;> (try simp) <;> (try rfl)

@[simp] theorem State.postHead_kept (s : State) (a : Axis) : (State.postHead s a).kept = s.kept := by
  simp only [State.postHead]
  (repeat' split) <;> (try simp) <;> (try rfl)

@[simp] theorem State.postIfFree_kept (s : State) : (State.postIfFree s).kept = s.kept := by
  simp only [State.postIfFree]
  (repeat' split) <;> (try simp) <;> (try rfl)

@[simp] theorem State.joinQueue_kept (s : State) (a : Axis) (r : Run) : (State.joinQueue s a r).kept = s.kept := by
  simp only [State.joinQueue]
  (repeat' split) <;> (try simp) <;> (try rfl)

@[simp] theorem State.leaveQueue_kept (s : State) (a : Axis) : (State.leaveQueue s a).kept = s.kept := by
  simp only [State.leaveQueue]
  (repeat' split) <;> (try simp) <;> (try rfl)

@[simp] theorem State.postStop_kept (s : State) : (State.postStop s).kept = s.kept := by
  simp only [State.postStop]
  (repeat' split) <;> (try simp) <;> (try rfl)

@[simp] theorem State.detachOrder_kept (s : State) (a : Axis) : (State.detachOrder s a).kept = s.kept := by
  simp only [State.detachOrder]
  (repeat' split) <;> (try simp) <;> (try rfl)

@[simp] theorem State.endRunOf_kept (s : State) (a : Axis) (r : Run) (res : RunResult) : (State.endRunOf s a r res).kept = s.kept := by
  simp only [State.endRunOf]
  (repeat' split) <;> (try simp) <;> (try rfl)

@[simp] theorem State.endRun_kept (s : State) (a : Axis) (res : RunResult) : (State.endRun s a res).kept = s.kept := by
  simp only [State.endRun]
  (repeat' split) <;> (try simp) <;> (try rfl)

@[simp] theorem State.stopRun_kept (s : State) (a : Axis) (r : Run) (phase : RunPhase) (pending : Option RunResult) : (State.stopRun s a r phase pending).kept = s.kept := by
  simp only [State.stopRun]
  (repeat' split) <;> (try simp) <;> (try rfl)

@[simp] theorem State.abortRun_kept (s : State) (a : Axis) (res : RunResult) : (State.abortRun s a res).kept = s.kept := by
  simp only [State.abortRun]
  (repeat' split) <;> (try simp) <;> (try rfl)

@[simp] theorem State.advanceRun_kept (s : State) (a : Axis) : (State.advanceRun s a).kept = s.kept := by
  simp only [State.advanceRun]
  (repeat' split) <;> (try simp) <;> (try rfl)

@[simp] theorem State.shiftAnchor_kept (s : State) (a : Axis) (by_ : Int) : (State.shiftAnchor s a by_).kept = s.kept := by
  simp only [State.shiftAnchor]
  (repeat' split) <;> (try simp) <;> (try rfl)

theorem State.rebase_kept {s s' : State} {a : Axis} {latch : Int} (h : s.rebase a latch = some s') : s'.kept = s.kept := by
  unfold State.rebase at h
  dsimp only at h
  split at h
  · simp only [Option.some.injEq] at h
    simp [← h]
  · simp at h

theorem State.takeMark_kept (s : State) (a : Axis) (r : Run) : (s.takeMark a r).state.kept = s.kept := by
  unfold State.takeMark
  split
  · rfl
  · split
    · rfl
    · rename_i h
      simp [StepResult.state, State.rebase_kept h]

theorem State.takeStep_kept (s : State) (a : Axis) (r : Run) (b : StepBody) : (s.takeStep a r b).state.kept = s.kept := by
  cases b with
  | mark => exact State.takeMark_kept s a r
  | verifyCoarse => simp only [State.takeStep, State.takeVerify]; (repeat' split) <;> rfl
  | seekSwitch d v t w => simp only [State.takeStep, State.takeSwitch]; split <;> simp [StepResult.state]
  | leaveSwitch d v t w => simp only [State.takeStep, State.takeSwitch]; split <;> simp [StepResult.state]
  | settle t => simp [State.takeStep, State.takeSettle, StepResult.state]
  | _ => simp [State.takeStep, StepResult.state]

@[simp] theorem takeSteps_kept (a : Axis) (l : List Step) (s : State) : (takeSteps a l s).kept = s.kept := by
  induction l generalizing s with
  | nil =>
    unfold takeSteps
    split <;> simp
  | cons st rest ih =>
    unfold takeSteps
    split
    · rfl
    · rename_i r _
      split
      · have hs := State.takeStep_kept s a r st.body
        split <;> rename_i h <;> rw [h] at hs <;> simp_all [StepResult.state]
      · simp [ih]

@[simp] theorem State.continueRun_kept (s : State) (a : Axis) : (s.continueRun a).kept = s.kept := by
  unfold State.continueRun
  split <;> simp

@[simp] theorem State.stepDone_kept (s : State) (a : Axis) : (State.stepDone s a).kept = s.kept := by
  simp only [State.stepDone]
  (repeat' split) <;> (try simp) <;> (try rfl)

@[simp] theorem State.meetStep_kept (s : State) (a : Axis) : (State.meetStep s a).kept = s.kept := by
  simp only [State.meetStep]
  (repeat' split) <;> (try simp) <;> (try rfl)

@[simp] theorem State.defeatStep_kept (s : State) (a : Axis) (res : RunResult) : (State.defeatStep s a res).kept = s.kept := by
  simp only [State.defeatStep]
  (repeat' split) <;> (try simp) <;> (try rfl)

@[simp] theorem State.switchEvent_kept (s : State) (a : Axis) (level : SwitchLevel) : (State.switchEvent s a level).kept = s.kept := by
  simp only [State.switchEvent]
  (repeat' split) <;> (try simp) <;> (try rfl)

@[simp] theorem State.indexCrossing_kept (s : State) (a : Axis) (c : Int) : (State.indexCrossing s a c).kept = s.kept := by
  simp only [State.indexCrossing]
  (repeat' split) <;> (try simp) <;> (try rfl)

@[simp] theorem State.contactEvent_kept (s : State) (a : Axis) : (State.contactEvent s a).kept = s.kept := by
  simp only [State.contactEvent]
  (repeat' split) <;> (try simp) <;> (try rfl)

@[simp] theorem State.loadCheckEvent_kept (s : State) (a : Axis) (k : LoadClass) : (State.loadCheckEvent s a k).kept = s.kept := by
  simp only [State.loadCheckEvent]
  (repeat' split) <;> (try simp) <;> (try rfl)

@[simp] theorem State.endMoving_kept (s : State) (a : Axis) (r : Run) (o : MoveOutcome) : (State.endMoving s a r o).kept = s.kept := by
  simp only [State.endMoving]
  (repeat' split) <;> (try simp) <;> (try rfl)

@[simp] theorem State.moveEnded_kept (s : State) (a : Axis) (o : MoveOutcome) : (State.moveEnded s a o).kept = s.kept := by
  simp only [State.moveEnded]
  (repeat' split) <;> (try simp) <;> (try rfl)

@[simp] theorem State.loseRun_kept (s : State) (a : Axis) : (State.loseRun s a).kept = s.kept := by
  simp only [State.loseRun]
  (repeat' split) <;> (try simp) <;> (try rfl)

@[simp] theorem State.emptySlot_kept (s : State) : (State.emptySlot s).kept = s.kept := by
  simp only [State.emptySlot]
  (repeat' split) <;> (try simp) <;> (try rfl)

@[simp] theorem State.powerFailEvent_kept (s : State) : s.powerFailEvent.kept = s.kept := by
  unfold State.powerFailEvent
  rw [foldl_kept _ (fun s a => s.endRun_kept a .powerFail)]
  simp

@[simp] theorem State.decideAxis_kept (s : State) (a : Axis) (rest : List Axis) (d : RecoveryRecord) : (State.decideAxis s a rest d).kept = s.kept := by
  simp only [State.decideAxis]
  (repeat' split) <;> (try simp) <;> (try rfl)

@[simp] theorem State.endRecovery_kept (s : State) : (State.endRecovery s).kept = s.kept := by
  simp only [State.endRecovery]
  (repeat' split) <;> (try simp) <;> (try rfl)

@[simp] theorem runWorklist_kept (w : List Axis) (s : State) : (runWorklist w s).kept = s.kept := by
  induction w generalizing s with
  | nil => simp [runWorklist]
  | cons a rest ih =>
    unfold runWorklist
    (repeat' split) <;> simp [ih]

@[simp] theorem State.takeWorklist_kept (s : State) : s.takeWorklist.kept = s.kept := by
  unfold State.takeWorklist
  split <;> simp

@[simp] theorem State.takeHead_kept (s : State) (a : Axis) : (State.takeHead s a).kept = s.kept := by
  simp only [State.takeHead]
  (repeat' split) <;> (try simp) <;> (try rfl)

@[simp] theorem State.noteDisturbed_kept (s : State) (a : Axis) : (State.noteDisturbed s a).kept = s.kept := by
  simp only [State.noteDisturbed]
  (repeat' split) <;> (try simp) <;> (try rfl)

@[simp] theorem State.noteRead_kept (s : State) (a : Axis) (fine : Nat) : (State.noteRead s a fine).kept = s.kept := by
  simp only [State.noteRead]
  (repeat' split) <;> (try simp) <;> (try rfl)

theorem State.lossEvent_keptFine (s : State) (a : Axis) (c : LossCause) (turn : Int) (fine : Nat) :
    (s.lossEvent a c turn fine).kept = s.kept.withFine a fine := by
  simp only [State.lossEvent]
  (repeat' split) <;> simp [State.commitRecord_keptFine]

@[simp] theorem State.lossEvent_kept (s : State) (a : Axis) (c : LossCause) (turn : Int) (fine : Nat)
    (h : fine = (s.record a).fine) : (s.lossEvent a c turn fine).kept = s.kept := by
  rw [State.lossEvent_keptFine, h, State.withFine_self]

@[simp] theorem State.anchorHere_kept (s : State) (a : Axis) : (State.anchorHere s a).kept = s.kept := by
  simp only [State.anchorHere]
  (repeat' split) <;> (try simp) <;> (try rfl)

@[simp] theorem State.detectRest_kept (s : State) (a : Axis) : (State.detectRest s a).kept = s.kept := by
  simp only [State.detectRest]
  (repeat' split) <;> (try simp) <;> (try rfl)

@[simp] theorem State.testCrossing_kept (s : State) (a : Axis) (old new : Int) : (State.testCrossing s a old new).kept = s.kept := by
  simp only [State.testCrossing]
  (repeat' split) <;> (try simp) <;> (try rfl)

@[simp] theorem State.sensorLost_kept (s : State) (a : Axis) : (State.sensorLost s a).kept = s.kept := by
  simp only [State.sensorLost]
  (repeat' split) <;> (try simp) <;> (try rfl)

@[simp] theorem State.failedRead_kept (s : State) (a : Axis) : (State.failedRead s a).kept = s.kept := by
  simp only [State.failedRead]
  (repeat' split) <;> (try simp) <;> (try rfl)

theorem State.startTracking_keptFine (s : State) (a : Axis) (fine : Nat) :
    (s.startTracking a fine).kept = s.kept.withFine a fine := by
  simp [State.startTracking, State.commitRecord_keptFine]

@[simp] theorem State.restartTracking_kept (s : State) (a : Axis) : (State.restartTracking s a).kept = s.kept := by
  simp only [State.restartTracking]
  (repeat' split) <;> (try simp) <;> (try rfl)

theorem State.advanceCount_keptFine (s : State) (a : Axis) (turn : Int) (fine : Nat) :
    (s.advanceCount a turn fine).kept = s.kept.withFine a fine := by
  simp only [State.advanceCount]
  split <;> simp [State.commitRecord_keptFine]

theorem State.trackRead_keptFine (s : State) (a : Axis) (fine : Nat) :
    (s.trackRead a fine).kept = s.kept.withFine a fine := by
  simp only [State.trackRead]
  (repeat' split) <;> simp [State.lossEvent_keptFine, State.advanceCount_keptFine]

/-- A read changes only the fine of its axis, to that of a good read. -/
theorem State.takeRead_keptFine (s : State) (a : Axis) (frame : List Bool) :
    (s.takeRead a frame).kept = s.kept.withFine a ((unpack (s.calOf a).profile frame).getD (s.record a).fine) := by
  simp only [State.takeRead]
  (repeat' split) <;> simp_all [State.startTracking_keptFine, State.trackRead_keptFine, State.withFine_self]

@[simp] theorem State.watchSample_kept (s : State) (a : Axis) (m : Nat) : (State.watchSample s a m).kept = s.kept := by
  simp only [State.watchSample]
  (repeat' split) <;> (try simp) <;> (try rfl)

@[simp] theorem State.crossCheckAxis_kept (s : State) (a : Axis) : (State.crossCheckAxis s a).kept = s.kept := by
  simp only [State.crossCheckAxis]
  (repeat' split) <;> (try simp) <;> (try rfl)

@[simp] theorem State.crossCheck_kept (s : State) : s.crossCheck.kept = s.kept := by
  unfold State.crossCheck
  rw [foldl_kept _ (fun s a => s.crossCheckAxis_kept a)]
  rfl

@[simp] theorem State.allCalInvalid_kept (s : State) : s.allCalInvalid.kept = s.kept := by
  unfold State.allCalInvalid
  exact foldl_kept _ (fun t a => t.commitRecord_kept a _ (calInvalid_fine (t.record a))) allAxes s

@[simp] theorem State.pfwCapture_kept (s : State) : (State.pfwCapture s).kept = s.kept := by
  simp only [State.pfwCapture]
  (repeat' split) <;> (try simp) <;> (try rfl)

@[simp] theorem State.pfwAssertion_kept (s : State) : (State.pfwAssertion s).kept = s.kept := by
  simp only [State.pfwAssertion]
  (repeat' split) <;> (try simp) <;> (try rfl)

@[simp] theorem State.assertPfw_kept (s : State) : (State.assertPfw s).kept = s.kept := by
  simp only [State.assertPfw]
  (repeat' split) <;> (try simp) <;> (try rfl)

@[simp] theorem State.deassertPfw_kept (s : State) : (State.deassertPfw s).kept = s.kept := by
  simp only [State.deassertPfw]
  (repeat' split) <;> (try simp) <;> (try rfl)

@[simp] theorem State.assertionAtStart_kept (s : State) : (State.assertionAtStart s).kept = s.kept := by
  simp only [State.assertionAtStart]
  (repeat' split) <;> (try simp) <;> (try rfl)

@[simp] theorem State.examineSlots_kept (s : State) : (State.examineSlots s).kept = s.kept := by
  simp only [State.examineSlots]
  (repeat' split) <;> (try simp) <;> (try rfl)

@[simp] theorem State.startWithout_kept (s : State) : (State.startWithout s).kept = s.kept := by
  simp only [State.startWithout]
  (repeat' split) <;> (try simp) <;> (try rfl)

@[simp] theorem State.startRecovery_kept (s : State) : (State.startRecovery s).kept = s.kept := by
  simp only [State.startRecovery]
  (repeat' split) <;> (try simp) <;> (try rfl)

@[simp] theorem State.completeStartup_kept (s : State) : (State.completeStartup s).kept = s.kept := by
  simp only [State.completeStartup]
  (repeat' split) <;> (try simp) <;> (try rfl)

@[simp] theorem State.classExpiry_kept (s : State) (a : Axis) : (State.classExpiry s a).kept = s.kept := by
  simp only [State.classExpiry]
  (repeat' split) <;> (try simp) <;> (try rfl)

@[simp] theorem State.loadSampleExpiry_kept (s : State) (a : Axis) : (State.loadSampleExpiry s a).kept = s.kept := by
  simp only [State.loadSampleExpiry]
  (repeat' split) <;> (try simp) <;> (try rfl)

@[simp] theorem State.ignoreExpiry_kept (s : State) (a : Axis) : (State.ignoreExpiry s a).kept = s.kept := by
  simp only [State.ignoreExpiry]
  (repeat' split) <;> (try simp) <;> (try rfl)

@[simp] theorem State.permitExpiry_kept (s : State) (a : Axis) : (State.permitExpiry s a).kept = s.kept := by
  simp only [State.permitExpiry]
  (repeat' split) <;> (try simp) <;> (try rfl)

@[simp] theorem State.settleExpiry_kept (s : State) (a : Axis) : (State.settleExpiry s a).kept = s.kept := by
  simp only [State.settleExpiry]
  (repeat' split) <;> (try simp) <;> (try rfl)

@[simp] theorem State.stepExpiry_kept (s : State) : (State.stepExpiry s).kept = s.kept := by
  simp only [State.stepExpiry]
  (repeat' split) <;> (try simp) <;> (try rfl)

@[simp] theorem State.acceptExpiry_kept (s : State) : (State.acceptExpiry s).kept = s.kept := by
  simp only [State.acceptExpiry]
  (repeat' split) <;> (try simp) <;> (try rfl)

@[simp] theorem State.stopExpiry_kept (s : State) : (State.stopExpiry s).kept = s.kept := by
  simp only [State.stopExpiry]
  (repeat' split) <;> (try simp) <;> (try rfl)

@[simp] theorem State.parkExpiry_kept (s : State) : (State.parkExpiry s).kept = s.kept := by
  simp only [State.parkExpiry]
  (repeat' split) <;> (try simp) <;> (try rfl)

@[simp] theorem State.sensorWaitExpiry_kept (s : State) : (State.sensorWaitExpiry s).kept = s.kept := by
  simp only [State.sensorWaitExpiry]
  (repeat' split) <;> (try simp) <;> (try rfl)

@[simp] theorem State.releaseRunOf_kept (s : State) (a : Axis) (owner : Claimant) : (State.releaseRunOf s a owner).kept = s.kept := by
  simp only [State.releaseRunOf]
  (repeat' split) <;> (try simp) <;> (try rfl)

@[simp] theorem State.takePair_kept (s : State) (a : Axis) (epoch : BitVec 16) : (State.takePair s a epoch).kept = s.kept := by
  simp only [State.takePair]
  (repeat' split) <;> (try simp) <;> (try rfl)

@[simp] theorem State.grant_kept (s : State) (a : Axis) : (State.grant s a).kept = s.kept := by
  simp only [State.grant]
  (repeat' split) <;> (try simp) <;> (try rfl)

@[simp] theorem State.refusePermit_kept (s : State) (a : Axis) : (State.refusePermit s a).kept = s.kept := by
  simp only [State.refusePermit]
  (repeat' split) <;> (try simp) <;> (try rfl)

@[simp] theorem State.requestPermit_kept (s : State) (a : Axis) (id : Nat) : (State.requestPermit s a id).kept = s.kept := by
  simp only [State.requestPermit]
  (repeat' split) <;> (try simp) <;> (try rfl)

@[simp] theorem State.clearSticky_kept (s : State) (m : AxisSet) (f : StickyFlags) : (s.clearSticky m f).kept = s.kept := by
  have : (fun b => ((s.clearSticky m f).record b).fine) = fun b => (s.record b).fine := by
    funext b
    simp only [State.record, State.clearSticky, PerAxis.get_of]
    split <;> rfl
  simp only [State.kept, this]
  rfl

@[simp] theorem State.runMoves_kept (s : State) (a : Axis) : (State.runMoves s a).kept = s.kept := by
  simp only [State.runMoves]
  (repeat' split) <;> (try simp) <;> (try rfl)

@[simp] theorem State.acceptOrder_kept (s : State) : (State.acceptOrder s).kept = s.kept := by
  simp only [State.acceptOrder]
  (repeat' split) <;> (try simp) <;> (try rfl)

@[simp] theorem State.endOrder_kept (s : State) (out : MoveOutcome) : (State.endOrder s out).kept = s.kept := by
  simp only [State.endOrder]
  (repeat' split) <;> (try simp) <;> (try rfl)

@[simp] theorem State.freeSlot_kept (s : State) : (State.freeSlot s).kept = s.kept := by
  simp only [State.freeSlot]
  (repeat' split) <;> (try simp) <;> (try rfl)

@[simp] theorem State.restartProfile_kept (s : State) (a : Axis) : (State.restartProfile s a).kept = s.kept := by
  simp only [State.restartProfile]
  (repeat' split) <;> (try simp) <;> (try rfl)

@[simp] theorem State.applyCommit_kept (old new : CalSet) (s : State) (a : Axis) : (State.applyCommit old new s a).kept = s.kept := by
  simp only [State.applyCommit]
  (repeat' split) <;> (try simp) <;> (try rfl)

@[simp] theorem State.outdateChanged_kept (old new : CalSet) (s : State) (a : Axis) : (State.outdateChanged old new s a).kept = s.kept := by
  simp only [State.outdateChanged]
  (repeat' split) <;> (try simp) <;> (try rfl)

@[simp] theorem State.discardSlots_kept (s : State) : (State.discardSlots s).kept = s.kept := by
  simp only [State.discardSlots]
  (repeat' split) <;> (try simp) <;> (try rfl)

/-! ### Whole commands -/

@[simp] theorem State.finish_kept (s : State) : s.finish.kept = s.kept := by
  simp only [State.kept, CalStore.parts, RecipeStore.parts, State.finish_calActive, State.finish_calStaging,
    State.finish_axisEditor, State.finish_deviceEditor, State.finish_points, State.finish_calValidity,
    State.finish_fingerprint, State.finish_calLoaded, State.finish_recipesActive, State.finish_recipesStaging,
    State.finish_recipesValidity, State.finish_recipesLoaded, State.finish_sensor, State.finish_load, State.finish_auth,
    State.finish_record, State.finish_runIdCounter, State.finish_pollingSince]

@[simp] theorem State.byteDone_kept (s : State) (o : LinkOwner) : (s.byteDone o).kept = s.kept := by
  cases o with
  | calibration => exact State.setCal_kept _ _ rfl
  | recipe => exact State.setRecipes_kept _ _ rfl
  | _ => simp [State.byteDone]

@[simp] theorem takePairs_kept (l : List (Axis × BitVec 16)) (s : State) : (takePairs l s).1.kept = s.kept := by
  induction l generalizing s with
  | nil => rfl
  | cons x l ih =>
    obtain ⟨a, e⟩ := x
    simp [takePairs, ih]

@[simp] theorem State.writeRetention_kept (s : State) (n : Fin retentionSize) (v : Byte) : (s.writeRetention n v).kept = s.kept := rfl

@[simp] theorem State.answer_kept (s : State) (p : Port) (tag : Byte) (code : ResultCode) (payload : List Byte) :
    (s.answer p tag code payload).kept = s.kept := rfl

/-- A command with an effect keeps what its effect keeps. -/
theorem State.event_kept (s : State) (f : State → State) (h : ∀ t, (f t).kept = t.kept) : (s.event f).kept = s.kept := by
  rw [State.event, State.finish_kept, h]
  rfl

/-- The inputs, the timebase, retention memory and the queue of commands. -/
def State.inert (s : State) : Bool × Bool × Micros × Memory × List Instr :=
  (s.supply, s.resetInput, s.now, s.retention, s.pending)

theorem State.inert_of_outside {s t : State} (h : t.outside = s.outside) : t.inert = s.inert :=
  congrArg (fun o : Outside => (o.supply, o.resetInput, o.now, o.retention, o.pending)) h

@[simp] theorem State.answer_inert (s : State) (p : Port) (tag : Byte) (code : ResultCode) (payload : List Byte) :
    (s.answer p tag code payload).inert = s.inert := rfl

/-- A command with an effect keeps the inputs, the timebase, retention memory and the queue where its effect does. -/
theorem State.event_inert (s : State) (f : State → State) (h : ∀ t, (f t).inert = t.inert) : (s.event f).inert = s.inert := by
  have e := h { s with outbox := [], parkTestDue := false, outdatedHere := PerAxis.const false }
  have k : (s.event f).inert = (f { s with outbox := [], parkTestDue := false, outdatedHere := PerAxis.const false }).inert := by
    simp [State.inert, State.event]
  rw [k, e]
  rfl

end Sys2Proof.Machine
end

