-- ==== Sys2Proof/Laws/Memory.lean ====
section
/-! SUPPORT. Retention memory: reads after a write, and the canonical form that every write keeps. -/
namespace Sys2Proof.Machine

/-- The canonical form from a higher address holds from a lower one. -/
theorem Memory.wfFrom_mono {low low' : Nat} {m : Memory} (h : Memory.wfFrom low m = true) (le : low' ≤ low) :
    Memory.wfFrom low' m = true := by
  cases m with
  | nil => rfl
  | cons x rest =>
    simp only [Memory.wfFrom, Bool.and_eq_true, decide_eq_true_eq] at h ⊢
    exact ⟨⟨⟨Nat.le_trans le h.1.1.1, h.1.1.2⟩, h.1.2⟩, h.2⟩

/-- An address below every cell reads as unwritten. -/
theorem Memory.read_below {low n : Nat} {m : Memory} (h : Memory.wfFrom low m = true) (lt : n < low) :
    Memory.read m n = unwritten := by
  induction m generalizing low with
  | nil => rfl
  | cons x rest ih =>
    obtain ⟨a, v⟩ := x
    simp only [Memory.wfFrom, Bool.and_eq_true, decide_eq_true_eq] at h
    rw [Memory.read, if_neg (by omega)]
    exact ih h.2 (by omega)

/-- A byte just written reads as written, and every other byte reads as before. -/
theorem Memory.read_write {low : Nat} {m : Memory} (h : Memory.wfFrom low m = true) (addr : Nat) (v : Byte) (n : Nat) :
    Memory.read (Memory.write m addr v) n = if n = addr then v else Memory.read m n := by
  induction m generalizing low with
  | nil =>
    unfold Memory.write
    split <;> split <;> simp_all [Memory.read]
    omega
  | cons x rest ih =>
    obtain ⟨a, w⟩ := x
    simp only [Memory.wfFrom, Bool.and_eq_true, decide_eq_true_eq] at h
    obtain ⟨⟨⟨_, _⟩, _⟩, tail⟩ := h
    unfold Memory.write
    split
    · next below =>
      have absent : ∀ k, k < a → Memory.read rest k = unwritten := fun k lt => Memory.read_below tail (by omega)
      split
      · next isUnwritten =>
        split
        · next same =>
          subst same
          rw [Memory.read, if_neg (by omega), absent n below, isUnwritten]
        · rfl
      · rw [Memory.read]
        by_cases same : n = addr
        · rw [if_pos same.symm, if_pos same]
        · rw [if_neg (fun e => same e.symm), if_neg same]
    · split
      · next same =>
        split
        · next isUnwritten =>
          by_cases here : n = addr
          · rw [if_pos here, Memory.read_below tail (by omega), isUnwritten]
          · rw [if_neg here, Memory.read, if_neg (by omega)]
        · rw [Memory.read]
          by_cases here : n = addr
          · rw [if_pos here.symm, if_pos here]
          · rw [if_neg (fun e => here e.symm), if_neg here, Memory.read, if_neg (by omega)]
      · rw [Memory.read, Memory.read, ih tail]
        by_cases here : n = addr
        · rw [if_pos here, if_pos here, if_neg (by omega)]
        · rw [if_neg here, if_neg here]

/-- A write inside retention memory keeps the canonical form. -/
theorem Memory.write_wfFrom {low : Nat} {m : Memory} (h : Memory.wfFrom low m = true) {addr : Nat} (above : low ≤ addr)
    (inside : addr < retentionSize) (v : Byte) : Memory.wfFrom low (Memory.write m addr v) = true := by
  induction m generalizing low with
  | nil =>
    unfold Memory.write
    split
    · rfl
    · simp_all [Memory.wfFrom]
  | cons x rest ih =>
    obtain ⟨a, w⟩ := x
    simp only [Memory.wfFrom, Bool.and_eq_true, decide_eq_true_eq] at h
    obtain ⟨⟨⟨lowA, insideA⟩, written⟩, tail⟩ := h
    unfold Memory.write
    split
    · split
      · simp only [Memory.wfFrom, Bool.and_eq_true, decide_eq_true_eq]
        exact ⟨⟨⟨lowA, insideA⟩, written⟩, tail⟩
      · simp only [Memory.wfFrom, Bool.and_eq_true, decide_eq_true_eq]
        exact ⟨⟨⟨above, inside⟩, by assumption⟩, ⟨⟨by omega, insideA⟩, written⟩, tail⟩
    · split
      · split
        · exact Memory.wfFrom_mono tail (by omega)
        · simp only [Memory.wfFrom, Bool.and_eq_true, decide_eq_true_eq]
          refine ⟨⟨⟨above, inside⟩, by assumption⟩, ?_⟩
          exact Memory.wfFrom_mono tail (by omega)
      · simp only [Memory.wfFrom, Bool.and_eq_true, decide_eq_true_eq]
        exact ⟨⟨⟨lowA, insideA⟩, written⟩, ih tail (by omega)⟩

/-- A byte just written reads as written. -/
theorem Memory.write_same {m : Memory} (h : Memory.wf m = true) (addr : Nat) (v : Byte) :
    Memory.read (Memory.write m addr v) addr = v := by
  rw [Memory.read_write h, if_pos rfl]

/-- A write leaves every other byte. -/
theorem Memory.write_other {m : Memory} (h : Memory.wf m = true) {addr n : Nat} (other : n ≠ addr) (v : Byte) :
    Memory.read (Memory.write m addr v) n = Memory.read m n := by
  rw [Memory.read_write h, if_neg other]

/-- Every write of the model keeps the canonical form. -/
theorem State.writeRetention_wf (s : State) (addr : Fin retentionSize) (v : Byte) (h : Memory.wf s.retention = true) :
    Memory.wf (s.writeRetention addr v).retention = true :=
  Memory.write_wfFrom h (Nat.zero_le _) addr.isLt v

/-- Completing the byte on the link keeps the canonical form. -/
theorem State.completeByte_wf (s : State) (h : Memory.wf s.retention = true) : Memory.wf s.completeByte.retention = true := by
  unfold State.completeByte
  split
  · exact State.writeRetention_wf s _ _ h
  · exact h

/-- A loss of supply keeps the canonical form, whatever a torn byte holds. -/
theorem State.loseByte_wf (s : State) (completes : Bool) (h : Memory.wf s.retention = true) :
    Memory.wf (s.loseByte completes).retention = true := by
  unfold State.loseByte
  split
  · exact h
  · split
    · exact State.completeByte_wf s h
    · exact State.writeRetention_wf s _ _ h

/-- Retention memory right after reset is in canonical form. -/
theorem State.reset_retention_wf : Memory.wf State.reset.retention = true := rfl

end Sys2Proof.Machine
end

