-- ==== Sys2Proof/Laws/PerInstr.lean ====
section
/-! SUPPORT. The per-instruction family Request: what the request parts of a well-formed command decode to. -/
-- The many small lemmas of this file are checked one after the other: side by side they would need more threads than the
-- memory limit of the check allows.
set_option Elab.async false

namespace Sys2Proof.Laws.Request

open Sys2Proof

/-- Whether a kind names a request depends on the kind alone. -/
theorem requestOfKind_isSome (p q : Port) (k t u : Byte) (b c : List Byte) :
    (Machine.requestOfKind p k t b).isSome = (Machine.requestOfKind q k u c).isSome := by
  unfold Machine.requestOfKind
  split
  · unfold Machine.readOfKind; split <;> rfl
  split
  · unfold Machine.authorityOfKind; split <;> rfl
  split
  · unfold Machine.motionOfKind; split <;> rfl
  · unfold Machine.storeOfKind; split <;> rfl

/-- The kind, tag and payload of a well-formed request command name that command (R180, R193). -/
def Statement (i : Instr) : Prop :=
  ∀ (p : Port) (k t : Byte) (b : List Byte), i.wf = true → requestParts i = some (p, k, t, b) →
    (Machine.requestOfKind p k t b).getD (.unknownKind p k t b) = i

theorem powerOnReset : Statement (.powerOnReset) := by
  intro p' k' t' b' _ h
  cases h

theorem powerLoss (byteCompletes : Bool) : Statement (.powerLoss byteCompletes) := by
  intro p' k' t' b' _ h
  cases h

theorem externalReset : Statement (.externalReset) := by
  intro p' k' t' b' _ h
  cases h

theorem externalResetRelease : Statement (.externalResetRelease) := by
  intro p' k' t' b' _ h
  cases h

theorem calibrationStartUpLoad : Statement (.calibrationStartUpLoad) := by
  intro p' k' t' b' _ h
  cases h

theorem recipeStartUpLoad : Statement (.recipeStartUpLoad) := by
  intro p' k' t' b' _ h
  cases h

theorem startupComplete : Statement (.startupComplete) := by
  intro p' k' t' b' _ h
  cases h

theorem pfwAsserted : Statement (.pfwAsserted) := by
  intro p' k' t' b' _ h
  cases h

theorem pfwDeasserted : Statement (.pfwDeasserted) := by
  intro p' k' t' b' _ h
  cases h

theorem readEvent (a : Axis) (began : Micros) (frame : List Bool) : Statement (.readEvent a began frame) := by
  intro p' k' t' b' _ h
  cases h

theorem homeSwitchSample (a : Axis) (asserted : Bool) : Statement (.homeSwitchSample a asserted) := by
  intro p' k' t' b' _ h
  cases h

theorem brakeSample (a : Axis) (asserted : Bool) : Statement (.brakeSample a asserted) := by
  intro p' k' t' b' _ h
  cases h

theorem coarseSample (a : Axis) (code : BitVec 12) : Statement (.coarseSample a code) := by
  intro p' k' t' b' _ h
  cases h

theorem currentSample (a : Axis) (value : BitVec 16) : Statement (.currentSample a value) := by
  intro p' k' t' b' _ h
  cases h

theorem crossCheckExpiry : Statement (.crossCheckExpiry) := by
  intro p' k' t' b' _ h
  cases h

theorem classificationTimerExpiry (a : Axis) : Statement (.classificationTimerExpiry a) := by
  intro p' k' t' b' _ h
  cases h

theorem loadSampleTimerExpiry (a : Axis) : Statement (.loadSampleTimerExpiry a) := by
  intro p' k' t' b' _ h
  cases h

theorem rampIgnoreExpiry (a : Axis) : Statement (.rampIgnoreExpiry a) := by
  intro p' k' t' b' _ h
  cases h

theorem permitTimerExpiry (a : Axis) : Statement (.permitTimerExpiry a) := by
  intro p' k' t' b' _ h
  cases h

theorem settleTimerExpiry (a : Axis) : Statement (.settleTimerExpiry a) := by
  intro p' k' t' b' _ h
  cases h

theorem stepTimerExpiry : Statement (.stepTimerExpiry) := by
  intro p' k' t' b' _ h
  cases h

theorem acceptTimerExpiry : Statement (.acceptTimerExpiry) := by
  intro p' k' t' b' _ h
  cases h

theorem stopTimerExpiry : Statement (.stopTimerExpiry) := by
  intro p' k' t' b' _ h
  cases h

theorem parkTimerExpiry : Statement (.parkTimerExpiry) := by
  intro p' k' t' b' _ h
  cases h

theorem sensorWaitTimerExpiry : Statement (.sensorWaitTimerExpiry) := by
  intro p' k' t' b' _ h
  cases h

theorem retentionByteWritten : Statement (.retentionByteWritten) := by
  intro p' k' t' b' _ h
  cases h

theorem shortPeriod (p : Port) (edges : Nat) : Statement (.shortPeriod p edges) := by
  intro p' k' t' b' _ h
  cases h

theorem fetch (p : Port) : Statement (.fetch p) := by
  intro p' k' t' b' _ h
  cases h

theorem frameError (p : Port) (received : List Byte) : Statement (.frameError p received) := by
  intro p' k' t' b' _ h
  cases h

theorem unknownKind (p : Port) (kind : Byte) (tag : Byte) (payload : List Byte) : Statement (.unknownKind p kind tag payload) := by
  intro p' k' t' b' wf h
  cases h
  have unknown : Machine.kindKnown kind = false := by
    simp only [Instr.wf, Bool.and_eq_true, Bool.not_eq_true'] at wf
    exact wf.1
  have absent := (requestOfKind_isSome p .motion kind tag 0 payload []).trans unknown
  rw [Option.isSome_eq_false_iff, Option.isNone_iff_eq_none] at absent
  rw [absent]
  rfl

theorem readAxes (p : Port) (tag : Byte) (payload : List Byte) : Statement (.readAxes p tag payload) := by
  intro p' k' t' b' _ h
  cases h
  rfl

theorem readAxis (p : Port) (tag : Byte) (payload : List Byte) : Statement (.readAxis p tag payload) := by
  intro p' k' t' b' _ h
  cases h
  rfl

theorem readRun (p : Port) (tag : Byte) (payload : List Byte) : Statement (.readRun p tag payload) := by
  intro p' k' t' b' _ h
  cases h
  rfl

theorem readRecovery (p : Port) (tag : Byte) (payload : List Byte) : Statement (.readRecovery p tag payload) := by
  intro p' k' t' b' _ h
  cases h
  rfl

theorem readSlots (p : Port) (tag : Byte) (payload : List Byte) : Statement (.readSlots p tag payload) := by
  intro p' k' t' b' _ h
  cases h
  rfl

theorem readCal (p : Port) (tag : Byte) (payload : List Byte) : Statement (.readCal p tag payload) := by
  intro p' k' t' b' _ h
  cases h
  rfl

theorem readStep (p : Port) (tag : Byte) (payload : List Byte) : Statement (.readStep p tag payload) := by
  intro p' k' t' b' _ h
  cases h
  rfl

theorem readReport (p : Port) (tag : Byte) (payload : List Byte) : Statement (.readReport p tag payload) := by
  intro p' k' t' b' _ h
  cases h
  rfl

theorem identify (p : Port) (tag : Byte) (payload : List Byte) : Statement (.identify p tag payload) := by
  intro p' k' t' b' _ h
  cases h
  rfl

theorem claim (p : Port) (tag : Byte) (payload : List Byte) : Statement (.claim p tag payload) := by
  intro p' k' t' b' _ h
  cases h
  rfl

theorem release (p : Port) (tag : Byte) (payload : List Byte) : Statement (.release p tag payload) := by
  intro p' k' t' b' _ h
  cases h
  rfl

theorem forceRelease (p : Port) (tag : Byte) (payload : List Byte) : Statement (.forceRelease p tag payload) := by
  intro p' k' t' b' _ h
  cases h
  rfl

theorem inhibit (p : Port) (tag : Byte) (payload : List Byte) : Statement (.inhibit p tag payload) := by
  intro p' k' t' b' _ h
  cases h
  rfl

theorem uninhibit (p : Port) (tag : Byte) (payload : List Byte) : Statement (.uninhibit p tag payload) := by
  intro p' k' t' b' _ h
  cases h
  rfl

theorem acknowledge (p : Port) (tag : Byte) (payload : List Byte) : Statement (.acknowledge p tag payload) := by
  intro p' k' t' b' _ h
  cases h
  rfl

theorem grantPermit (p : Port) (tag : Byte) (payload : List Byte) : Statement (.grantPermit p tag payload) := by
  intro p' k' t' b' _ h
  cases h
  rfl

theorem refusePermit (p : Port) (tag : Byte) (payload : List Byte) : Statement (.refusePermit p tag payload) := by
  intro p' k' t' b' _ h
  cases h
  rfl

theorem home (p : Port) (tag : Byte) (payload : List Byte) : Statement (.home p tag payload) := by
  intro p' k' t' b' _ h
  cases h
  rfl

theorem abortHome (p : Port) (tag : Byte) (payload : List Byte) : Statement (.abortHome p tag payload) := by
  intro p' k' t' b' _ h
  cases h
  rfl

theorem invalidate (p : Port) (tag : Byte) (payload : List Byte) : Statement (.invalidate p tag payload) := by
  intro p' k' t' b' _ h
  cases h
  rfl

theorem acceptReference (p : Port) (tag : Byte) (payload : List Byte) : Statement (.acceptReference p tag payload) := by
  intro p' k' t' b' _ h
  cases h
  rfl

theorem clearFlags (p : Port) (tag : Byte) (payload : List Byte) : Statement (.clearFlags p tag payload) := by
  intro p' k' t' b' _ h
  cases h
  rfl

theorem readMoveOrder (p : Port) (tag : Byte) (payload : List Byte) : Statement (.readMoveOrder p tag payload) := by
  intro p' k' t' b' _ h
  cases h
  rfl

theorem moveAccept (p : Port) (tag : Byte) (payload : List Byte) : Statement (.moveAccept p tag payload) := by
  intro p' k' t' b' _ h
  cases h
  rfl

theorem moveEnd (p : Port) (tag : Byte) (payload : List Byte) : Statement (.moveEnd p tag payload) := by
  intro p' k' t' b' _ h
  cases h
  rfl

theorem channelReset (p : Port) (tag : Byte) (payload : List Byte) : Statement (.channelReset p tag payload) := by
  intro p' k' t' b' _ h
  cases h
  rfl

theorem setCal (p : Port) (tag : Byte) (payload : List Byte) : Statement (.setCal p tag payload) := by
  intro p' k' t' b' _ h
  cases h
  rfl

theorem discardCal (p : Port) (tag : Byte) (payload : List Byte) : Statement (.discardCal p tag payload) := by
  intro p' k' t' b' _ h
  cases h
  rfl

theorem commitCal (p : Port) (tag : Byte) (payload : List Byte) : Statement (.commitCal p tag payload) := by
  intro p' k' t' b' _ h
  cases h
  rfl

theorem captureZero (p : Port) (tag : Byte) (payload : List Byte) : Statement (.captureZero p tag payload) := by
  intro p' k' t' b' _ h
  cases h
  rfl

theorem captureCoarse (p : Port) (tag : Byte) (payload : List Byte) : Statement (.captureCoarse p tag payload) := by
  intro p' k' t' b' _ h
  cases h
  rfl

theorem setStep (p : Port) (tag : Byte) (payload : List Byte) : Statement (.setStep p tag payload) := by
  intro p' k' t' b' _ h
  cases h
  rfl

theorem clearRecipe (p : Port) (tag : Byte) (payload : List Byte) : Statement (.clearRecipe p tag payload) := by
  intro p' k' t' b' _ h
  cases h
  rfl

theorem commitRecipes (p : Port) (tag : Byte) (payload : List Byte) : Statement (.commitRecipes p tag payload) := by
  intro p' k' t' b' _ h
  cases h
  rfl

theorem checkpoint (p : Port) (tag : Byte) (payload : List Byte) : Statement (.checkpoint p tag payload) := by
  intro p' k' t' b' _ h
  cases h
  rfl

theorem discardSnapshots (p : Port) (tag : Byte) (payload : List Byte) : Statement (.discardSnapshots p tag payload) := by
  intro p' k' t' b' _ h
  cases h
  rfl

theorem subscribe (p : Port) (tag : Byte) (payload : List Byte) : Statement (.subscribe p tag payload) := by
  intro p' k' t' b' _ h
  cases h
  rfl

end Sys2Proof.Laws.Request
end

