-- ==== Sys2Proof/Laws/Regions.lean ====
section
/-! SUPPORT. The region images: their lengths, the fields that read back as written, and the regions that a write leaves good. -/
namespace Sys2Proof.Machine

@[simp] theorem be_length (n v : Nat) : (be n v).length = n := by
  induction n with
  | zero => rfl
  | succ n ih => rw [be, List.length_cons, ih]

@[simp] theorem beInt_length (n : Nat) (v : Int) : (beInt n v).length = n := be_length n _

/-- Four bytes read back as the number that they hold. -/
theorem natOfBytes_be4 (v : Nat) (h : v < 2 ^ 32) : natOfBytes (be 4 v) = v := by
  simp only [be, natOfBytes, List.foldl, BitVec.toNat_ofNat, Nat.shiftRight_eq_div_pow]
  omega

@[simp] theorem AxisCal.image_length (c : AxisCal) : c.image.length = 67 := by
  simp [AxisCal.image, axisFields, AxisField.bytes]

@[simp] theorem DeviceCal.image_length (d : DeviceCal) : d.image.length = 7 := by
  simp [DeviceCal.image, deviceFields, DeviceField.bytes]

/-- The image of a set has the 409 bytes of R62. -/
@[simp] theorem CalSet.image_length (c : CalSet) : c.image.length = 409 := by
  simp [CalSet.image, PerAxis.toList]

/-- A region that carries format version 1, an image and its CRC-32 checks. -/
theorem regionChecks (image : List Byte) (n : Nat) (h : image.length = n) :
    let bs := byte 1 :: (image ++ be 4 (crc32 image).toNat)
    bs.getD 0 0 = 1 ∧ slice bs 1 n = image ∧ natOfBytes (slice bs (n + 1) 4) = (crc32 image).toNat := by
  refine ⟨rfl, ?_, ?_⟩
  · simp [slice, h]
  · rw [slice, List.drop_succ_cons, List.drop_left' h, List.take_of_length_le (by simp)]
    exact natOfBytes_be4 _ (crc32 image).isLt

/-- The region that a completed calibration write leaves is good (R63, R66). -/
theorem calRegionGood_region (c : CalSet) : calRegionGood c.region = true := by
  obtain ⟨version, image, check⟩ := regionChecks c.image 409 c.image_length
  simp only [calRegionGood, Bool.and_eq_true, decide_eq_true_eq]
  unfold CalSet.region CalSet.fingerprint
  rw [image, check]
  exact ⟨version, rfl⟩

@[simp] theorem Step.bytes_length (st : Step) : st.bytes.length = 10 := by
  obtain ⟨cond, body⟩ := st
  cases body <;> simp [Step.bytes, StepBody.bytes, seekBytes]

@[simp] theorem recipeImage_length (steps : List Step) : (recipeImage steps).length = 121 := by
  have body : ((steps.take 12).flatMap Step.bytes).length = 10 * (steps.take 12).length := by
    generalize steps.take 12 = l
    induction l with
    | nil => rfl
    | cons x l ih => rw [List.flatMap_cons, List.length_append, ih, Step.bytes_length, List.length_cons]; omega
  have few : (steps.take 12).length ≤ 12 := by rw [List.length_take]; omega
  simp only [recipeImage, List.length_cons, List.length_append, List.length_replicate]
  omega

/-- The image of sixteen recipes has 1936 bytes. -/
theorem recipesImage_length (rs : List (List Step)) (h : rs.length = 16) : (recipesImage rs).length = 1936 := by
  have all : ∀ l : List (List Step), (recipesImage l).length = 121 * l.length := by
    intro l
    induction l with
    | nil => rfl
    | cons x l ih =>
      rw [recipesImage, List.flatMap_cons, List.length_append, recipeImage_length, ← recipesImage, ih, List.length_cons]
      omega
  rw [all, h]

/-- The region that a completed recipe write leaves is good (R99, R100). -/
theorem recipeRegionGood_region (rs : List (List Step)) (h : rs.length = 16) : recipeRegionGood (recipesRegion rs) = true := by
  obtain ⟨version, image, check⟩ := regionChecks (recipesImage rs) 1936 (recipesImage_length rs h)
  simp only [recipeRegionGood, Bool.and_eq_true, decide_eq_true_eq]
  unfold recipesRegion
  rw [image, check]
  exact ⟨version, rfl⟩

end Sys2Proof.Machine
end

