-- ==== Sys2Proof/Laws/Words.lean ====
section
/-! SUPPORT. The model's own functions said in the words of the statements: the pending marks of a capture, an abort in
ENDING, a commit on a coupling source, the test of a contact sample, the park test, the wait queue after aborts, the expiries of a µs, the
order of a step, and the layouts of retention memory. -/
namespace Sys2Proof.Machine

/-! ### The pending marks of a capture (R148) -/

@[simp] theorem State.cutCalWrite_cont (s : State) : s.cutCalWrite.cont = s.cont := by
  unfold State.cutCalWrite
  split <;> rfl

@[simp] theorem State.cutRecipeWrite_cont (s : State) : s.cutRecipeWrite.cont = s.cont := by
  unfold State.cutRecipeWrite
  split <;> rfl

/-- A capture starts with the pending marks of its freeze. -/
@[simp] theorem State.startCapture_pendingMarks (s : State) (r : CaptureReason) :
    (s.startCapture r).cont.pendingMarks = s.marksAtFreeze := by
  simp only [State.startCapture, State.cutRecipeWrite_cont, State.cutCalWrite_cont]
  rfl

/-- At a freeze an axis that is not RESTORING is pending where an earlier command of the µs outdated it. -/
theorem State.marksAtFreeze_get {s : State} {a : Axis} (h : (s.record a).state ≠ .restoring) :
    s.marksAtFreeze.get a = s.outdatedNow.get a := by
  have carried : s.carriedMark a = false := by
    unfold State.carriedMark
    split
    · rename_i e _; exact absurd e h
    · rfl
  rw [State.marksAtFreeze, PerAxis.get_of, carried, Bool.false_or]

/-! ### An abort in ENDING (R112) -/

/-- A run in ENDING stands through every abort. -/
theorem State.abortRun_ending {s : State} {a : Axis} {r : Run} (res : RunResult) (h : s.run a = some r) (hp : r.phase = .ending) :
    s.abortRun a res = s := by
  simp [State.abortRun, h, hp]

/-! ### A commit that removes or replaces a frame (R22, R58) -/

theorem AxisRecord.frameCommitted_iff (r : AxisRecord) (old new : AxisCal) :
    r.frameCommitted old new = true ↔ r.state.framed = true ∧ old.definesFrame new = true := by
  simp [AxisRecord.frameCommitted]

/-- Fields that define a frame anew differ. -/
theorem AxisCal.ne_of_definesFrame {old new : AxisCal} (h : old.definesFrame new = true) : old ≠ new := by
  rintro rfl
  simp [AxisCal.definesFrame, AxisCal.removesFrame, AxisCal.replacesFrame] at h

/-- The last thing that such a commit does to an axis is to evaluate it and its dependents. -/
theorem State.applyCommit_reevaluates {old new : CalSet} {s : State} {a : Axis} (hf : (s.record a).state.framed = true)
    (hd : (old.axes.get a).definesFrame (new.axes.get a) = true) :
    ∃ u : State, State.applyCommit old new s a = u.reevaluate a false := by
  have hc := (AxisRecord.frameCommitted_iff (s.record a) _ _).2 ⟨hf, hd⟩
  simp only [State.applyCommit, if_neg (AxisCal.ne_of_definesFrame hd), hc, if_true]
  exact ⟨_, rfl⟩

/-! ### The test of a sample (R136) -/

/-- One magnitude taken into the contact reference. -/
def referenceStep (acc : Option Nat) (m : Nat) : Option Nat :=
  if m < 2 then acc
  else match acc with
    | none => some m
    | some r => some (min r m)

theorem contactReference_eq_foldl (w : List Nat) : contactReference w = w.foldl referenceStep none := rfl

/-- From a reference on, the fold gives the least of it and the magnitudes of 2 or more. -/
theorem foldl_referenceStep_some (w : List Nat) (r : Nat) :
    ∃ x, w.foldl referenceStep (some r) = some x ∧ x ≤ r ∧ (∀ k ∈ w, 2 ≤ k → x ≤ k) ∧ (x = r ∨ x ∈ w ∧ 2 ≤ x) := by
  induction w generalizing r with
  | nil => exact ⟨r, rfl, Nat.le_refl r, by simp, .inl rfl⟩
  | cons m w ih =>
    by_cases h : m < 2
    · obtain ⟨x, hx, hr, hk, ho⟩ := ih r
      refine ⟨x, by simpa [referenceStep, h] using hx, hr, ?_, ?_⟩
      · intro k hm h2
        rcases List.mem_cons.1 hm with rfl | hm
        · omega
        · exact hk k hm h2
      · rcases ho with ho | ⟨hm, h2⟩
        · exact .inl ho
        · exact .inr ⟨List.mem_cons_of_mem _ hm, h2⟩
    · obtain ⟨x, hx, hr, hk, ho⟩ := ih (min r m)
      refine ⟨x, by simpa [referenceStep, h] using hx, by omega, ?_, ?_⟩
      · intro k hm h2
        rcases List.mem_cons.1 hm with rfl | hm
        · omega
        · exact hk k hm h2
      · rcases ho with ho | ⟨hm, h2⟩
        · by_cases hc : r ≤ m
          · exact .inl (by omega)
          · have hm : x = m := by omega
            exact .inr ⟨hm ▸ List.mem_cons_self, by omega⟩
        · exact .inr ⟨List.mem_cons_of_mem _ hm, h2⟩

/-- The reference is the smallest magnitude of 2 or more, absent where there is none. -/
theorem contactReference_spec (w : List Nat) :
    (contactReference w = none ∧ ∀ k ∈ w, k < 2)
    ∨ ∃ r, contactReference w = some r ∧ r ∈ w ∧ 2 ≤ r ∧ ∀ k ∈ w, 2 ≤ k → r ≤ k := by
  rw [contactReference_eq_foldl]
  induction w with
  | nil => exact .inl ⟨rfl, by simp⟩
  | cons m w ih =>
    by_cases h : m < 2
    · rcases ih with ⟨hn, hk⟩ | ⟨r, hr, hm, h2, hk⟩
      · exact .inl ⟨by simpa [referenceStep, h] using hn, fun k hm => (List.mem_cons.1 hm).elim (fun he => he ▸ h) (hk k)⟩
      · refine .inr ⟨r, by simpa [referenceStep, h] using hr, List.mem_cons_of_mem _ hm, h2, ?_⟩
        intro k hm' h2'
        rcases List.mem_cons.1 hm' with rfl | hm'
        · omega
        · exact hk k hm' h2'
    · obtain ⟨x, hx, hr, hk, ho⟩ := foldl_referenceStep_some w m
      refine .inr ⟨x, by simpa [referenceStep, h] using hx, ?_, ?_, ?_⟩
      · rcases ho with rfl | ⟨hm, _⟩
        · exact List.mem_cons_self
        · exact List.mem_cons_of_mem _ hm
      · rcases ho with rfl | ⟨_, h2⟩ <;> omega
      · intro k hm h2
        rcases List.mem_cons.1 hm with rfl | hm
        · exact hr
        · exact hk k hm h2

/-- The test of the model leaves the count of R136, and no other. -/
theorem LoadState.testLeaves_iff (l : LoadState) (v : ContactValues) (m n : Nat) (hv : l.contactValues = some v) :
    l.testLeaves v m n ↔ n = testContact l m := by
  unfold LoadState.testLeaves testContact
  rw [hv]
  rcases contactReference_spec l.contactWindow with ⟨hn, hk⟩ | ⟨r, hr, hm, h2, hk⟩
  · rw [hn]
    exact ⟨fun h => h.1 hk, fun h => ⟨fun _ => h, fun ref hm h2 _ => absurd (hk ref hm) (by omega)⟩⟩
  · rw [hr]
    refine ⟨fun h => h.2 r hm h2 hk, fun h => ⟨fun hs => absurd (hs r hm) (by omega), fun ref hm' h2' hk' => ?_⟩⟩
    rw [Nat.le_antisymm (hk' r hm h2) (hk ref hm' h2')]
    exact h

/-! ### The park test (R147) -/

/-- The model's test of an axis is that of R147. -/
theorem State.axisDiffers_iff (s : State) (a : Axis) : s.axisDiffers a = true ↔ s.differsFromNewest a := by
  unfold State.axisDiffers State.differsFromNewest State.matchesEntry SnapEntry.count
  cases h : s.cont.newest with
  | none => simp
  | some sl =>
    simp only [reduceCtorEq, false_or, Option.some.injEq, exists_eq_left']
    cases restorable (some (s.record a).state) <;> cases restorable ((s.cont.slot sl).entries.get a).state <;> simp [or_assoc]

/-! ### Aborts (R75, R112, R119) -/

/-- The runs that an abort ends at once wait for a permit or the slot, or settle. -/
theorem State.abortEndsAtOnce_iff (s : State) (a : Axis) :
    s.abortEndsAtOnce a = true ↔
      ∃ x, s.run a = some x ∧ (x.phase = .waitPermit ∨ x.phase = .waitChannel ∨ x.phase = .settling) := by
  unfold State.abortEndsAtOnce
  cases s.run a <;> simp [or_assoc]

/-- An axis waits on after aborts unless its own run ended. -/
theorem State.mem_queueAfterAborts (s : State) (aborted : Axis → Bool) (b : Axis) :
    b ∈ s.queueAfterAborts aborted ↔ b ∈ s.channel.queue ∧ (aborted b = true → s.abortEndsAtOnce b = false) := by
  cases h : aborted b <;> simp [State.queueAfterAborts, h]

/-- Aborts of no run leave the queue. -/
theorem State.queueAfterAborts_none (s : State) : s.queueAfterAborts (fun _ => false) = s.channel.queue := by
  simp [State.queueAfterAborts]

/-! ### Time (log 1, log 26) -/

theorem dueIf_sublist (due : Bool) (i : Instr) : (dueIf due i).Sublist [i] := by
  cases due <;> simp [dueIf]

theorem Timer.runsOut_iff (t : Timer) : Timer.runsOut t = true ↔ runsOutNow t := by
  cases t <;> simp [Timer.runsOut, runsOutNow]

/-- The expiries of a µs are some of all expiry commands, in their order. -/
theorem State.expiries_sublist (s : State) : s.expiries.Sublist allExpiries := by
  simp only [State.expiries, allExpiries, allAxes, State.axisExpiries, List.flatMap_cons, List.flatMap_nil, List.append_assoc,
    List.append_nil]
  repeat first
    | exact dueIf_sublist _ _
    | exact List.Sublist.append (dueIf_sublist _ _) (dueIf_sublist _ _)
    | refine List.Sublist.append (l₂ := [_]) (dueIf_sublist _ _) ?_

/-! ### The order of a step (R86, R87) -/

/-- An order that a step asks has the parts and the step time of R87. -/
theorem StepBody.asksOrder_of_orderParts (c : AxisCal) (body : StepBody) (o : OrderParts) (h : orderParts c body = some o) :
    body.asksOrder c o (stepTime c body) := by
  have speed : ∀ k, orderSpeed c k = if c.homingSpeed * k < 8 then 1 else c.homingSpeed * k / 8 := by
    intro k
    unfold orderSpeed
    split <;> omega
  cases body <;> simp only [orderParts, reduceCtorEq, Option.some.injEq] at h <;> subst h <;>
    simp [StepBody.asksOrder, stepTime, speed]
  omega

/-! ### Layouts (R149, R196) -/

theorem intOfFlag (b : Bool) : ((b.toNat : Nat) : Int) = if b then 1 else 0 := by cases b <;> rfl

theorem AxisCal.image_eq_layout (c : AxisCal) : c.image = c.layout := by
  rw [show c.image = axisFields.flatMap (fun f => beInt f.bytes (c.value f / f.unit)) from rfl]
  unfold axisFields
  simp only [List.flatMap_cons, List.flatMap_nil]
  simp only [AxisField.unit, Int.ediv_one]
  simp only [AxisField.bytes]
  simp only [AxisCal.value, couplingNumber, intOfFlag]
  unfold AxisCal.layout
  cases h : c.couplingSource <;> simp only [List.append_assoc, List.append_nil]

theorem CalSet.image_eq_layout (c : CalSet) : c.image = c.layout := by
  have axes : AxisCal.image = AxisCal.layout := funext AxisCal.image_eq_layout
  simp [CalSet.image, CalSet.layout, axes, DeviceCal.image, deviceFields, DeviceField.bytes, DeviceCal.value]

theorem regionOf_eq (image : List Byte) : regionOf image = byte 1 :: (image ++ be 4 (crc32 image).toNat) := by
  rw [regionOf, List.append_assoc, List.singleton_append]
  congr 1

/-- A calibration write carries the region of R196. -/
theorem CalSet.region_eq_layout (c : CalSet) : c.region = regionOf c.layout := by
  rw [CalSet.region, CalSet.fingerprint, CalSet.image_eq_layout, regionOf_eq]

theorem Step.bytes_eq_layout (st : Step) : st.bytes = st.layout := by
  obtain ⟨cond, body⟩ := st
  cases cond <;> cases body <;> try rfl
  all_goals first
    | (rename_i d c _ _; cases d <;> rfl)
    | (rename_i f k; cases f <;> cases k <;> rfl)

theorem CaptureBuffer.covered_eq_layout (b : CaptureBuffer) : b.covered = b.layout := by
  obtain ⟨q, r, f, e⟩ := b
  cases r <;> rfl

theorem recipeImage_eq_layout (steps : List Step) : recipeImage steps =
    byte steps.length :: ((steps.take 12).flatMap Step.layout ++ List.replicate (10 * (12 - steps.length)) 0) := by
  have bytes : Step.bytes = Step.layout := funext Step.bytes_eq_layout
  have len : ((steps.take 12).flatMap Step.layout).length = 10 * min 12 steps.length := by
    rw [← bytes, List.length_flatMap, List.map_congr_left (fun st _ => Step.bytes_length st), List.map_const',
      List.sum_replicate_nat, List.length_take]
    omega
  rw [recipeImage, bytes, len]
  congr 3
  omega

/-- A recipe write carries the region of R196. -/
theorem recipesRegion_eq_layout (rs : List (List Step)) : recipesRegion rs = regionOf (recipesLayout rs) := by
  have image : recipesImage rs = recipesLayout rs := by
    rw [recipesImage, recipesLayout, funext recipeImage_eq_layout]
  rw [recipesRegion, image, regionOf_eq]

@[simp] theorem atOffsets_length (off : Nat) (bs : List Byte) : (atOffsets off bs).length = bs.length := by
  induction bs generalizing off with
  | nil => rfl
  | cons b bs ih => simp [atOffsets, ih]

/-- Bytes at rising offsets, one by one. -/
theorem atOffsets_getElem? (off : Nat) (bs : List Byte) (i : Nat) (h : i < bs.length) :
    (atOffsets off bs)[i]? = some (off + i, bs.getD i 0) := by
  induction bs generalizing off i with
  | nil => simp at h
  | cons b bs ih =>
    cases i with
    | zero => rfl
    | succ i =>
      rw [atOffsets, List.getElem?_cons_succ, ih _ _ (by simpa using h), List.getD_cons_succ, Nat.add_assoc, Nat.add_comm 1 i]

@[simp] theorem SnapEntry.bytes_length (e : SnapEntry) : e.bytes.length = 12 := by simp [SnapEntry.bytes]

@[simp] theorem CaptureBuffer.layout_length (b : CaptureBuffer) : b.layout.length = 117 := by
  rw [← CaptureBuffer.covered_eq_layout]
  simp [CaptureBuffer.covered, CaptureBuffer.header, PerAxis.toList]

/-- The n-th write of a capture is that of R149. -/
theorem CaptureBuffer.writes_getD (b : CaptureBuffer) (n : Nat) (h : n < 129) : b.writes.getD n (0, 0) = b.slotWrite n := by
  have head : (SlotState.writing.byte :: b.layout).length = 118 := by simp
  rw [CaptureBuffer.writes, CaptureBuffer.covered_eq_layout, List.getD_eq_getElem?_getD, CaptureBuffer.slotWrite]
  by_cases h1 : n < 118
  · rw [List.append_assoc, List.append_assoc, List.getElem?_append_left (by simpa using h1),
      atOffsets_getElem? _ _ _ (by simpa using h1), if_pos h1]
    simp [SlotState.byte]
  · rw [if_neg h1, List.append_assoc, List.append_assoc, List.getElem?_append_right (by simp; omega), atOffsets_length, head]
    by_cases h2 : n < 124
    · rw [List.getElem?_append_left (by simp; omega), atOffsets_getElem? _ _ _ (by simp; omega), if_pos h2]
      simp only [Option.getD_some, Prod.mk.injEq, true_and]
      rw [List.getD_eq_getElem?_getD, List.getElem?_replicate]
      split <;> rfl
    · rw [if_neg h2, List.getElem?_append_right (by simp; omega), atOffsets_length, List.length_replicate]
      by_cases h3 : n < 128
      · rw [List.getElem?_append_left (by simp; omega), atOffsets_getElem? _ _ _ (by simp; omega), if_pos h3]
        rw [Option.getD_some, Nat.sub_sub]
      · have : n = 128 := by omega
        subst this
        rw [if_neg h3, List.getElem?_append_right (by simp)]
        simp [SlotState.byte]

end Sys2Proof.Machine
end

