-- ==== Sys2Proof/Tests/Slice0.lean ====
section
/-! SUPPORT. Tests of the model: ill-formed commands, the CRCs and a hand-written frame, the manual's worked numbers, and for each
statement a state and operands that meet its hypotheses. -/
-- The tests are checked one after the other: side by side they would need more threads than the memory limit of the check allows.
set_option Elab.async false

namespace Sys2Proof.Tests

open Sys2Proof Sys2Proof.Machine

/-! ### States -/

/-- The state that a command answers. -/
def after (c : Instr) (s : State) : State :=
  match exec c s with
  | .next t => t
  | .fault _ => s
  | .refused _ => s

/-- A record with no frame, as after a failed recovery. -/
def unframed : AxisRecord :=
  { resetRecord with state := .unreferenced, lossCause := .recoveryFailed, epoch := 1, movingSinceCapture := true }

/-- The phase RUNNING, a valid calibration of defaults, no frame, every sensor TRACKING, no inhibit. -/
def base : State :=
  { State.reset with
    cont := { resetCont false with phase := .running }
    cal := { resetCal with validity := .valid, loaded := true }
    recipes := { resetRecipes with validity := .valid, loaded := true }
    pollingSince := some 0
    now := 5000
    records := PerAxis.const unframed
    sensors := PerAxis.const { resetSensor with readStatus := .tracking }
    authority := PerAxis.const { resetAuth with inhibited := false } }

/-- The axis's active and staging calibration changed alike. -/
def calibrated (s : State) (a : Axis) (f : AxisCal → AxisCal) : State :=
  s.setCal { s.cal with
    active := { s.cal.active with axes := s.cal.active.axes.set a (f (s.cal.active.axes.get a)) }
    staging := { s.cal.staging with axes := s.cal.staging.axes.set a (f (s.cal.staging.axes.get a)) } }

/-- The record of an axis changed. -/
def recorded (s : State) (a : Axis) (f : AxisRecord → AxisRecord) : State := s.setRecord a (f (s.record a))

/-- A sensor with 17 fine bits. -/
def p17 : SensorProfile := { startGap := 0, fineWidth := 17, statusWidth := 0 }

/-- The bits of a value, most significant first. -/
def bitsOf : Nat → Nat → List Bool
  | 0, _ => []
  | n + 1, v => v.testBit n :: bitsOf n v

/-- A sensor frame with its check. -/
def frameOf (w v : Nat) : List Bool := bitsOf w v ++ bitsOf 8 (crc8 (bitsOf w v)).toNat

/-- A framed axis 3 with a position. -/
def framed (st : AxisState) (e : Nat) : State :=
  recorded base .a3 fun r => { r with state := st, origin := .homed, epoch := BitVec.ofNat 16 e, position := some 140 }

/-- The wrist of the worked conversion: the roll on axis 4 and the bend on axis 5. -/
def wrist : State :=
  let s := calibrated base .a4 fun c => { c with profile := p17, refCount := 5000, scale := 4608000 }
  let s := calibrated s .a5 fun c =>
    { c with profile := p17, refCount := 90000, scale := 3840000, couplingSource := some .a4, couplingScale := -1152000
             homePosition := 450000 }
  let s := recorded s .a4 fun r => { r with turn := 12, fine := 70000 }
  recorded s .a5 fun r => { r with turn := -3, fine := 20000 }

/-- A recipe with a motion step at every index. -/
def seekAndMark : List Step := [⟨.always, .seekSwitch .negative 8 1000 0⟩, ⟨.always, .mark⟩]

/-- `base` with that recipe at every index. -/
def ready : State := base.setRecipes { base.recipes with active := List.replicate 16 seekAndMark, staging := List.replicate 16 seekAndMark }

/-- Run 7 of axis 1 in a phase. -/
def run7 (ph : RunPhase) : Run :=
  { runId := 7, owner := .cell, recipeIndex := 0, position := 0, l0 := false, l1 := false, latch := none, marked := false
    phase := ph, orderId := none, stepStart := none, pendingResult := none }

/-- Order 21 of run 7. -/
def order21 : Order :=
  { orderId := 21, runId := 7, axis := .a1, kind := .jog, direction := some .negative, speed := some 64, distance := some 1000
    stop := false, contactMargin := 100, contactCount := 4, rampIgnore := 100, loadDelay := none }

/-- Axis 1 HOMING under a run. -/
def withRun (s : State) (r : Run) : State :=
  (recorded s .a1 fun x => { x with state := .homing, epoch := 5, runId := some r.runId }).setRun .a1 (some r)

/-- Axis 1 waiting for its permit. -/
def waiting : State :=
  (withRun ready (run7 .waitPermit)).setAuth .a1
    { claim := none, inhibited := false, permit := .wanted, permitRun := some 7, permitTimer := some 1 }

/-- Axis 1 with its order in the slot. -/
def ordered (slot : ChannelState) (ph : RunPhase) : State :=
  (withRun ready { run7 ph with orderId := some 21, stepStart := some 0 }).setChannel
    { resetChannel with slot := slot, order := some order21, orderIdCounter := 22, stepTimer := some 9
                        acceptTimer := if slot = .posted then some 9 else none
                        stopTimer := if slot = .stopping then some 9 else none }

/-- The end of STARTUP is near: both loads are complete. -/
def starting : State := { base with cont := resetCont false }

/-- Recovery with axis 1 at the head of the worklist, its sensor silent. -/
def recovering : State :=
  { base with
    cont := { resetCont false with phase := .restoring }
    planner := { resetPlanner with worklist := [.a1], sensorWait := .running 1 }
    records := PerAxis.const resetRecord
    sensors := PerAxis.const resetSensor }

/-- The causes of the newest record of a port. -/
def newestCauses (s : State) (p : Port) : Option CauseSet := (s.port p).queue.getLast?.map fun r => r.causes

/-! ### Well-formed commands -/

/-- Ill-formed commands are refused, one for each check. -/
theorem test_wf_refuses :
    (Instr.shortPeriod .cell 8).wf = false
    ∧ (Instr.readEvent .a1 0 (List.replicate 65 true)).wf = false
    ∧ (Instr.frameError .cell (requestFrame 0x09 17 [])).wf = false
    ∧ (Instr.frameError .cell [0]).wf = false
    ∧ (Instr.unknownKind .cell 0x09 17 []).wf = false
    ∧ (Instr.unknownKind .cell 0x7F 17 (List.replicate 121 0)).wf = false
    ∧ (Instr.claim .cell 17 (List.replicate 121 0)).wf = false
    ∧ (Instr.subscribe .cell 17 (List.replicate 121 0)).wf = false := by decide +kernel

/-- Their neighbours at the boundary are well formed. -/
theorem test_wf_accepts :
    (Instr.shortPeriod .cell 7).wf = true
    ∧ (Instr.readEvent .a1 0 (List.replicate 64 true)).wf = true
    ∧ (Instr.frameError .cell [2, 0x09, 17, 0, 0]).wf = true
    ∧ (Instr.frameError .cell [1]).wf = true
    ∧ (Instr.unknownKind .cell 0x7F 17 []).wf = true
    ∧ (Instr.claim .cell 17 (List.replicate 120 0)).wf = true := by decide +kernel

/-! ### CRCs and frames -/

/-- The check values of the three CRCs over the digits 1 to 9. -/
theorem test_crc_check_values :
    crc8 (List.flatMap bitsOfByte [0x31, 0x32, 0x33, 0x34, 0x35, 0x36, 0x37, 0x38, 0x39]) = 0xF4#8
    ∧ crc16 [0x31, 0x32, 0x33, 0x34, 0x35, 0x36, 0x37, 0x38, 0x39] = 0x29B1#16
    ∧ crc32 [0x31, 0x32, 0x33, 0x34, 0x35, 0x36, 0x37, 0x38, 0x39] = 0xFC891918#32 := by decide +kernel

/-- HOME (2) with tag 17, its frame written out, is decoded; with a bit of its payload corrupted it is a frame error; fewer
than 8 edges are no period and a length of 0 is a fetch. -/
theorem test_decode_period :
    decodePeriod .cell 48 [3, 0x20, 17, 2, 0x89, 0xDA] = .home .cell 17 [2]
    ∧ decodePeriod .cell 48 [3, 0x20, 17, 3, 0x89, 0xDA] = .frameError .cell [3, 0x20, 17, 3, 0x89, 0xDA]
    ∧ decodePeriod .cell 40 [2, 0x7F, 9, 0x2B, 0xB2] = .unknownKind .cell 0x7F 9 []
    ∧ decodePeriod .cell 7 [] = .shortPeriod .cell 7
    ∧ decodePeriod .cell 8 [0] = .fetch .cell := by decide +kernel

/-! ### Steps, time and resets -/

/-- A step runs the command in front and leaves the queue's rest. -/
theorem test_step_takes_front :
    step { base with pending := [.shortPeriod .cell 3, .fetch .cell] } = .next { base with pending := [.fetch .cell] } := rfl

/-- On an empty queue a part that acts passes 1 µs, and the timers that run out enqueue their expiries. -/
theorem test_idle_passes_time :
    waiting.pending = [] ∧ waiting.acting = true ∧ (waiting.auth .a1).permitTimer = some 1
    ∧ waiting.tick.pending = [.permitTimerExpiry .a1] ∧ waiting.tick.now = 5001 ∧ waiting.tick.crossCheckTimer = 63999 := by
  decide +kernel

/-- A part that recovers has a sensor wait timer, which counts down too. -/
theorem test_idle_counts_sensor_wait :
    recovering.planner.sensorWait = .running 1 ∧ recovering.tick.planner.sensorWait = .running 0
    ∧ recovering.tick.pending = [.sensorWaitTimerExpiry] ∧ base.planner.sensorWait.isRunning = false := by decide +kernel

/-- With 2 µs left a timer does not run out, with 1 it does; two that run out together join in the order of the model (log 26). -/
theorem test_idle_expiries :
    let s := waiting.setAuth .a1 { waiting.auth .a1 with permitTimer := some 2 }
    s.tick.pending = [] ∧ { s with crossCheckTimer := 1 }.tick.pending = [.crossCheckExpiry]
    ∧ (s.setChannel { s.channel with stopTimer := some 1, acceptTimer := some 0 }).tick.pending =
        [.acceptTimerExpiry, .stopTimerExpiry]
    ∧ ({ s with settleTimers := s.settleTimers.set .a6 (some 1) }.setLoad .a6 { resetLoad with classTimer := some 1 }).tick.pending =
        [.classificationTimerExpiry .a6, .settleTimerExpiry .a6]
    ∧ allExpiries.length = 36 := by decide +kernel

/-- A part held in reset idles. -/
theorem test_idle_in_reset :
    { State.reset with resetInput := true }.acting = false
    ∧ step { State.reset with resetInput := true } = .next { State.reset with resetInput := true } := ⟨rfl, rfl⟩

/-- A byte on the link, for the resets. -/
def linked : State := { base with link := some { owner := .calibration, addr := 413, value := 0x5A#8 } }

/-- EXTERNAL_RESET completes the byte in progress and holds the blocks at their reset values. -/
theorem test_external_reset :
    linked.acting = true ∧ linked.memoryCanonical
    ∧ (after .externalReset linked).byteAt 413 = 0x5A#8 ∧ (after .externalReset linked).byteAt 412 = 0
    ∧ (after .externalReset linked).acting = false ∧ (after .externalReset linked).record .a6 = resetRecord := by
  unfold State.memoryCanonical
  decide +kernel

/-- POWER_LOSS with a byte that completes. -/
theorem test_power_loss :
    linked.supply = true ∧ linked.memoryCanonical ∧ (after (.powerLoss true) linked).byteAt 413 = 0x5A#8
    ∧ (after (.powerLoss true) linked).supply = false := by
  unfold State.memoryCanonical
  decide +kernel

/-- POWER_ON_RESET and the release of the external reset leave a part that acts. -/
theorem test_power_on_reset :
    (after .powerOnReset (after (.powerLoss true) linked)).acting = true
    ∧ (after .externalResetRelease (after .externalReset linked)).acting = true := by decide +kernel

/-- A part held in reset takes no request. -/
theorem test_nothing_taken_in_reset :
    { base with resetInput := true }.acting = false ∧ needsActing (.readAxes .cell 1 []) = true
    ∧ needsActing .externalResetRelease = false := by decide +kernel

/-! ### Invariants and frames of the whole machine -/

/-- The reset state meets the premises of the invariants, and its step answers a next state. -/
theorem test_invariant_premises :
    State.reset.memoryCanonical ∧ State.reset.turnsOk ∧ State.reset.channelOk ∧ State.reset.permitsOk ∧ State.reset.portsOk
    ∧ State.reset.positionsCurrent ∧ step State.reset = .next State.reset.tick := by
  refine ⟨by unfold State.memoryCanonical; decide, fun a => by cases a <;> decide, by unfold State.channelOk; decide,
    fun a => by cases a <;> decide, fun p => by cases p <;> exact ⟨⟨by decide, rfl⟩, by decide, by decide, by decide⟩,
    ⟨fun a => by cases a <;> decide, fun _ a => by cases a <;> decide⟩, rfl⟩

/-- The premises of the statements about what only some commands change, at a command outside each class and at one inside. -/
theorem test_frame_premises :
    exec (.fetch .motion) base = .next (after (.fetch .motion) base) ∧ mayWriteRetention (.fetch .motion) = false
    ∧ changesCalibration (.fetch .motion) = false ∧ changesRecipes (.fetch .motion) = false
    ∧ changesClaims (.fetch .motion) = false ∧ samplesInputs .a1 (.brakeSample .a2 true) = false
    ∧ samplesCurrent .a1 (.brakeSample .a1 true) = false ∧ readsSensor .a1 (.readEvent .a2 0 []) = false
    ∧ resetsBlocks (.fetch .motion) = false ∧ periodPort (.fetch .motion) ≠ some .cell
    ∧ periodPort (.readEvent .a1 0 []) ≠ some .cell := by
  refine ⟨rfl, ?_⟩
  decide

/-! ### Start-up and the power-fail warning -/

/-- Bytes as cells, from an address. -/
def cellsFrom : Nat → List Byte → Memory
  | _, [] => []
  | n, b :: rest => (n, b) :: cellsFrom (n + 1) rest

/-- Bytes as cells read back as the bytes, also below further cells. -/
theorem readBytes_cellsFrom (bs : List Byte) (n : Nat) (m : Memory) (h : ∀ k, n ≤ k → k < n + bs.length →
    m.read k = (cellsFrom n bs).read k) : m.readBytes n bs.length = bs := by
  induction bs generalizing n with
  | nil => rfl
  | cons b bs ih =>
    rw [List.length_cons, Memory.readBytes]
    congr 1
    · rw [h n (Nat.le_refl _) (by simp)]
      simp [cellsFrom, Memory.read]
    · refine ih (n + 1) fun k low high => ?_
      rw [h k (by omega) (by simp; omega)]
      simp only [cellsFrom, Memory.read]
      rw [if_neg (by omega)]

/-- STARTUP before the loads. -/
def unloaded (m : Memory) : State :=
  { base with
    cont := resetCont false, cal := resetCal, recipes := resetRecipes, pollingSince := none
    records := PerAxis.const resetRecord
    retention := m }

/-- A region that a calibration write left is good. -/
theorem test_calibration_load_good :
    (unloaded (cellsFrom 0 defaultCalSet.region)).acting = true
    ∧ (unloaded (cellsFrom 0 defaultCalSet.region)).cont.phase = .startup
    ∧ (unloaded (cellsFrom 0 defaultCalSet.region)).cal.loaded = false
    ∧ calRegionGood ((unloaded (cellsFrom 0 defaultCalSet.region)).retention.readBytes 0 414) = true := by
  refine ⟨rfl, rfl, rfl, ?_⟩
  have length : defaultCalSet.region.length = 414 := by simp [CalSet.region]
  have read := readBytes_cellsFrom defaultCalSet.region 0 (cellsFrom 0 defaultCalSet.region) fun _ _ _ => rfl
  rw [length] at read
  change calRegionGood (Memory.readBytes (cellsFrom 0 defaultCalSet.region) 0 414) = true
  rw [read]
  exact calRegionGood_region defaultCalSet

/-- An unwritten calibration region gives the defaults and CALIBRATION_INVALID. -/
theorem test_calibration_load_bad :
    calRegionGood (Memory.readBytes [] 0 414) = false
    ∧ (after .calibrationStartUpLoad (unloaded [])).cal.validity = .invalid
    ∧ (after .calibrationStartUpLoad (unloaded [])).pollingSince = some 5000
    ∧ ((after .calibrationStartUpLoad (unloaded [])).record .a1).lossCause = .calibrationInvalid := by
  decide +kernel

/-- A region that a recipe write left is good, and its step records are those of R86. -/
theorem test_recipe_load_good :
    (unloaded (cellsFrom 414 (recipesRegion emptyRecipes))).recipes.loaded = false
    ∧ recipeRegionGood ((unloaded (cellsFrom 414 (recipesRegion emptyRecipes))).retention.readBytes 414 1941) = true
    ∧ recipesOfBytes 16 (recipesImage emptyRecipes) = some emptyRecipes := by
  refine ⟨rfl, ?_, by decide +kernel⟩
  have length : (recipesRegion emptyRecipes).length = 1941 := by
    rw [recipesRegion, List.length_cons, List.length_append, recipesImage_length _ rfl, be_length]
  have read := readBytes_cellsFrom (recipesRegion emptyRecipes) 414 (cellsFrom 414 (recipesRegion emptyRecipes)) fun _ _ _ => rfl
  rw [length] at read
  change recipeRegionGood (Memory.readBytes (cellsFrom 414 (recipesRegion emptyRecipes)) 414 1941) = true
  rw [read]
  exact recipeRegionGood_region emptyRecipes rfl

/-- An unwritten recipe region gives empty recipes, INVALID. -/
theorem test_recipe_load_bad :
    recipeRegionGood (Memory.readBytes [] 414 1941) = false
    ∧ (after .recipeStartUpLoad (unloaded [])).recipes.validity = .invalid := by decide +kernel

/-- STARTUP_COMPLETE with a valid calibration and empty slots: RESTORING ends at once or waits, and both verdicts are EMPTY or torn. -/
theorem test_startup_complete_valid :
    starting.acting = true ∧ starting.cont.phase = .startup ∧ starting.cal.loaded = true ∧ starting.recipes.loaded = true
    ∧ starting.cal.validity ≠ .invalid
    ∧ (after .startupComplete starting).planner.source = none ∧ (after .startupComplete starting).cont.phase ≠ .startup := by
  decide +kernel

/-- STARTUP_COMPLETE with an invalid calibration, with PFW deasserted and asserted. -/
theorem test_startup_complete_invalid :
    (starting.setCal { starting.cal with validity := .invalid }).cal.validity = .invalid
    ∧ (after .startupComplete (starting.setCal { starting.cal with validity := .invalid })).cont.phase = .running
    ∧ (after .startupComplete ((starting.setCal { starting.cal with validity := .invalid }).setCont (resetCont true))).cont.phase
        = .holdup := by decide +kernel

/-- The header and entries of a slot of sequence 58 under the fingerprint 7. -/
def covered : List Byte := be 4 58 ++ [1] ++ be 4 7 ++ [1] ++ List.replicate 107 0

/-- STARTUP with that slot COMMITTED as slot B, its CRC-32 and the mark of axis 2 behind it, under an INVALID calibration. -/
def committedB : State :=
  let s := starting.setCal { starting.cal with validity := .invalid, fingerprint := 7 }
  { s with retention := cellsFrom 2483 (0xA5 :: covered ++ be 4 (crc32 covered).toNat ++ [0, 1, 0, 0, 0, 0]) }

/-- Slot B as it is read: VALID and intact, sequence 58, the mark of axis 2 (R142, R158). -/
theorem test_newest_slot_is_read :
    committedB.cont.capture = none ∧ committedB.cont.pfw = false ∧ committedB.cont.park ≠ .ready
    ∧ (committedB.readSlot .b).verdict committedB.cal.fingerprint = .valid
    ∧ ((committedB.readSlot .b).sequence, (committedB.readSlot .b).marks.get .a1, (committedB.readSlot .b).marks.get .a2) =
        (58, false, true) := by
  have read : Memory.readBytes committedB.retention (slotBase .b) 128 =
      0xA5 :: covered ++ be 4 (crc32 covered).toNat ++ [0, 1, 0, 0, 0, 0] :=
    readBytes_cellsFrom (0xA5 :: covered ++ be 4 (crc32 covered).toNat ++ [0, 1, 0, 0, 0, 0]) 2483 _ fun _ _ _ => rfl
  have crc : (crc32 covered).toNat = natOfBytes (be 4 (crc32 covered).toNat) := (natOfBytes_be4 _ (crc32 covered).isLt).symm
  have whole : slice (0xA5 :: covered ++ be 4 (crc32 covered).toNat ++ [0, 1, 0, 0, 0, 0]) 1 117 = covered := by
    generalize (crc32 covered).toNat = n
    rfl
  have stored : slice (0xA5 :: covered ++ be 4 (crc32 covered).toNat ++ [0, 1, 0, 0, 0, 0]) 118 4 = be 4 (crc32 covered).toNat := by
    generalize (crc32 covered).toNat = n
    rfl
  refine ⟨rfl, rfl, by decide +kernel, ?_, ?_⟩
  · unfold State.readSlot
    rw [read]
    have matched : (slotImageOf (0xA5 :: covered ++ be 4 (crc32 covered).toNat ++ [0, 1, 0, 0, 0, 0])).crcMatches = true := by
      simp only [slotImageOf, whole, stored]
      exact decide_eq_true crc
    unfold SlotImage.verdict
    rw [matched]
    generalize (crc32 covered).toNat = n
    rfl
  · unfold State.readSlot
    rw [read]
    generalize (crc32 covered).toNat = n
    rfl

/-- With no slot intact there is no newest slot, and MOVING_SINCE_CAPTURE is set in every record (R142). -/
theorem test_directory_without_newest :
    let t := after .startupComplete (starting.setCal { starting.cal with validity := .invalid })
    t.planner.source = none ∧ t.cont.newest = none ∧ (t.record .a2).movingSinceCapture = true := by decide +kernel

/-- An axis that slipped between capture and return: cpt 131072, captured fine 130990, first-read fine 8. -/
def slipped (first : Nat) (captured turn : Int) : State :=
  let s := calibrated base .a2 fun c => { c with profile := p17 }
  let e : SnapEntry := { stateCode := byte 4, turn := captured, fine := 130990, originCode := byte 1, epoch := 12
                         loadCode := byte 2, movingCode := byte 0, stickyCode := byte 0 }
  { (recorded s .a2 fun r => { r with state := .restoring, turn := turn, fine := first }) with
    planner := { resetPlanner with
      entries := some { entries := PerAxis.const e, marks := PerAxis.const false }, source := some .b
      firstFine := PerAxis.const (some first) } }

/-- The shoulder of the worked power loss: Δ +90 within 128, turn 211 (R164 to R166). -/
theorem test_recovery_within_window :
    (slipped 8 210 0).sourceFramed .a2 = true ∧ ((slipped 8 210 0).calOf .a2).coarsePresent = false
    ∧ restorable (some .referenced) = true ∧ (slipped 8 210 0).planner.disturbed.get .a2 = false
    ∧ ((slipped 8 210 0).decision .a2).outcome = .restored ∧ ((slipped 8 210 0).decision .a2).turn = some 211
    ∧ ((slipped 8 210 0).decision .a2).delta = some 90 ∧ ((slipped 8 210 0).decision .a2).window = some 128 := by decide +kernel

/-- Δ of 128 is within the window and 129 beyond it. -/
theorem test_recovery_at_window :
    ((slipped 46 210 0).decision .a2).outcome = .restored ∧ ((slipped 47 210 0).decision .a2).outcome = .failed
    ∧ ((slipped 47 210 0).decision .a2).reason = some .windowExceeded := by decide +kernel

/-- A turn of 32768 is out of range. -/
theorem test_recovery_turn_out_of_range :
    ((slipped 8 32766 0).decision .a2).outcome = .restored ∧ ((slipped 8 32767 0).decision .a2).outcome = .failed
    ∧ ((slipped 8 32767 0).decision .a2).reason = some .notRestorable := by decide +kernel

/-- `slipped` with its source entry, its marks or its planner changed. -/
def slippedWith (f : SnapEntry → SnapEntry) (mark disturbed : Bool) : State :=
  let s := slipped 8 210 0
  s.setPlanner { s.planner with
    entries := s.planner.entries.map fun x => { entries := PerAxis.const (f x.entries.v1), marks := PerAxis.const mark }
    disturbed := PerAxis.const disturbed }

/-- SOURCE_UNRESOLVED, and each condition of R165 at its first failure (R164, R165). -/
theorem test_recovery_path_does_not_apply :
    ((calibrated (slipped 8 210 0) .a2 fun c => { c with couplingSource := some .a1 }).sourceFramed .a2) = false
    ∧ ((calibrated (slipped 8 210 0) .a2 fun c => { c with couplingSource := some .a1 }).decision .a2).reason =
        some .sourceUnresolved
    ∧ (((slipped 8 210 0).setPlanner { (slipped 8 210 0).planner with entries := none }).decision .a2).path = some .noSource
    ∧ ((slippedWith (fun e => { e with stateCode := byte 5 }) true true).decision .a2).path = some .notFramed
    ∧ ((slippedWith (fun e => { e with loadCode := byte 3 }) true true).decision .a2).path = some .outdated
    ∧ ((slippedWith (fun e => { e with loadCode := byte 3 }) false true).decision .a2).path = some .overload
    ∧ ((slippedWith id false true).decision .a2).path = some .disturbed
    ∧ ((slippedWith id false true).decision .a2).reason = some .notRestorable := by decide +kernel

/-- `slipped` with a coarse sensor that shows a joint value in units of one count, and a tolerance of half a turn less one. -/
def slippedCoarse (first : Nat) (mark : Bool) (coarse : Int) : State :=
  let s := calibrated (slipped first 210 0) .a2 fun c =>
    { c with scale := 2 ^ 24, refCount := 0, homePosition := 0, coarsePresent := true, coarseRef := 0, coarseHome := coarse
             coarseGain := 0, coarseTolerance := 65535 }
  (s.setSensor .a2 { s.sensor .a2 with coarseAverage := some 0 }).setPlanner { s.planner with
    entries := s.planner.entries.map fun x => { x with marks := PerAxis.const mark } }

/-- A candidate that fits its coarse sensor and one that does not, and the coarse path with a match, with none, and after a window
exceeded: turn 211 with fine 8 is 27656200 (R166, R167). -/
theorem test_recovery_with_coarse_sensor :
    (slippedCoarse 8 false 27656200).coarseJoint .a2 = some 27656200
    ∧ ((slippedCoarse 8 false 27721735).decision .a2).outcome = .restored
    ∧ ((slippedCoarse 8 false 27721736).decision .a2).reason = some .conflict
    ∧ ((slippedCoarse 8 true 27721735).decision .a2).outcome = .rebuilt
    ∧ ((slippedCoarse 8 true 27721735).decision .a2).turn = some 211
    ∧ (slippedCoarse 8 true 27721735).coarseTurn .a2 27721735 = 211
    ∧ ((slippedCoarse 8 true 27721736).decision .a2).reason = some .noCandidate
    ∧ ((slippedCoarse 47 false 27656200).decision .a2).reason = some .coarseMatch
    ∧ ((slippedCoarse 47 false 27656200).decision .a2).path = some .windowExceeded := by decide +kernel

/-- PFW_ASSERTED in RUNNING ends a run and empties the slot; a blocked slot stays. -/
theorem test_pfw_asserted :
    (ordered .active .moving).acting = true ∧ (ordered .active .moving).cont.pfw = false
    ∧ (ordered .active .moving).cont.phase = .running ∧ (ordered .active .moving).cont.capture = none
    ∧ (after .pfwAsserted (ordered .active .moving)).cont.phase = .holdup
    ∧ (after .pfwAsserted (ordered .active .moving)).run .a1 = none
    ∧ (after .pfwAsserted (ordered .active .moving)).lastRuns.get .a1 = some (7, .powerFail)
    ∧ (after .pfwAsserted (ordered .active .moving)).channel.slot = .empty
    ∧ (after .pfwAsserted (ordered .blocked .moving)).channel.slot = .blocked := by decide +kernel

/-- The slot and its order agree in those states. -/
theorem test_pfw_asserted_channel : (ordered .active .moving).channelOk ∧ (ordered .blocked .moving).channelOk := by
  unfold State.channelOk
  decide +kernel

/-- A capture in flight with a reason. -/
def capturing (reason : CaptureReason) : State :=
  base.setCont { base.cont with
    capture := some { target := .a, written := 5, buffer := base.freeze reason } }

/-- PFW_ASSERTED abandons a CHECKPOINT capture, lets a POWER_FAIL capture go on with one owed, and takes none in STARTUP (R145, R150). -/
theorem test_pfw_with_a_capture :
    ((after .pfwAsserted (capturing .checkpoint)).cont.capture.map fun x => (x.buffer.reason, x.written, x.target)) =
        some (.powerFail, 0, .a)
    ∧ ((after .pfwAsserted (capturing .powerFail)).cont.capture.map fun x => (x.buffer.reason, x.written)) = some (.powerFail, 5)
    ∧ (after .pfwAsserted (capturing .powerFail)).cont.owed = true
    ∧ (after .pfwAsserted starting).cont.capture = none ∧ (after .pfwAsserted starting).cont.phase = .startup := by decide +kernel

/-- PFW_DEASSERTED in HOLDUP without a capture, in HOLDUP with one, and in RUNNING. -/
theorem test_pfw_deasserted :
    (after .pfwDeasserted (base.setCont { base.cont with phase := .holdup, pfw := true })).cont.phase = .running
    ∧ (after .pfwDeasserted (after .pfwAsserted base)).cont.phase = .holdup
    ∧ (after .pfwAsserted base).cont.capture ≠ none
    ∧ (after .pfwDeasserted base).cont.phase = .running := by decide +kernel

/-- The byte on the link is written; an idle link is left idle. -/
theorem test_byte_written :
    (after .retentionByteWritten linked).byteAt 413 = 0x5A#8 ∧ linked.link ≠ none ∧ base.link = none
    ∧ (after .retentionByteWritten base).retention = base.retention := by decide +kernel

/-- The last byte of a capture is on the link. -/
def committing : State :=
  let b := base.freeze .checkpoint
  { base with
    cont := { base.cont with capture := some { target := .b, written := 128, buffer := b }
                             pendingMarks := (PerAxis.const false).set .a2 true }
    link := some { owner := .capture, addr := 2483, value := SlotState.committed.byte } }

/-- The last byte of a capture commits it. -/
theorem test_capture_commits :
    committing.acting = true ∧ committing.cont.owed = false ∧ committing.cont.park ≠ .ready
    ∧ committing.cont.capture.map (fun x => x.written + 1) = some captureLength
    ∧ (after .retentionByteWritten committing).cont.newest = some .b
    ∧ (after .retentionByteWritten committing).cont.slotB.state = .committed
    ∧ ((after .retentionByteWritten committing).record .a2).movingSinceCapture = true
    ∧ ((after .retentionByteWritten committing).record .a1).movingSinceCapture = false := by decide +kernel

/-- The capture owed begins at the commit where the level is ASSERTED, and lapses where it is not (R145). -/
theorem test_owed_capture :
    let s := fun (pfw : Bool) => committing.setCont { committing.cont with owed := true, pfw := pfw, phase := .holdup }
    ((after .retentionByteWritten (s true)).cont.capture.map fun x => (x.target, x.buffer.sequence.toNat)) = some (.a, 2)
    ∧ (after .retentionByteWritten (s false)).cont.capture = none
    ∧ (after .retentionByteWritten (s false)).cont.phase = .running := by decide +kernel

/-! ### Sensor reads and samples -/

/-- Axis 3 at turn 40 and fine 5000 of a 17-bit sensor, after some failed reads. -/
def tracked (failed : Nat) (rs : ReadStatus) : State :=
  let s := calibrated base .a3 fun c => { c with profile := p17, refCount := 40000, scale := 4608000 }
  (recorded s .a3 fun r => { r with state := .referenced, origin := .homed, epoch := 7, turn := 40, fine := 5000 }).setSensor .a3
    { resetSensor with readStatus := rs, failedReads := failed }

/-- A good read one eighth of a turn on, the limit of R33 after no failed read. -/
theorem test_good_read_at_limit :
    (tracked 0 .tracking).acting = true ∧ (tracked 0 .tracking).pollingSince ≠ none
    ∧ (tracked 0 .tracking).pollDiscarded .a3 4750 = false ∧ (tracked 0 .tracking).cont.phase ≠ .restoring
    ∧ unpack ((tracked 0 .tracking).calOf .a3).profile (frameOf 17 21384) = some 21384
    ∧ (bringIntoTurn (21384 - 5000) 131072).natAbs * 8 ≤ (0 + 1) * 131072
    ∧ (after (.readEvent .a3 4750 (frameOf 17 21384)) (tracked 0 .tracking)).count .a3 = 40 * 131072 + 21384
    ∧ ((after (.readEvent .a3 4750 (frameOf 17 21384)) (tracked 0 .tracking)).record .a3).state = .referenced := by
  decide +kernel

/-- A good read one count beyond the limit of R33: TRACK_LOST. -/
theorem test_jump_is_track_lost :
    unpack ((tracked 0 .tracking).calOf .a3).profile (frameOf 17 21385) = some 21385
    ∧ (0 + 1) * 131072 < (bringIntoTurn (21385 - 5000) 131072).natAbs * 8
    ∧ ((after (.readEvent .a3 4750 (frameOf 17 21385)) (tracked 0 .tracking)).record .a3).frame =
        (.unreferenced, .none, .trackLost, 8)
    ∧ ((after (.readEvent .a3 4750 (frameOf 17 21385)) (tracked 0 .tracking)).record .a3).turn = 40 := by decide +kernel

/-- A first read that starts tracking, in LOST and for a RESTORING axis whose first-read fine is absent or present (R32, R161). -/
theorem test_tracking_starts :
    (recovering.planner.worklist.head? = some .a1)
    ∧ ((after (.readEvent .a3 4750 (frameOf 17 9)) (tracked 3 .lost)).record .a3).fine = 9
    ∧ ((after (.readEvent .a3 4750 (frameOf 17 9)) (tracked 3 .lost)).sensor .a3).restAnchor = some (40 * 131072 + 9)
    ∧ ((after (.readEvent .a3 4750 (frameOf 17 9)) (tracked 3 .lost)).record .a3).state = .referenced
    ∧ (let s := recorded (tracked 3 .lost) .a3 fun r => { r with state := .restoring }
       (after (.readEvent .a3 4750 (frameOf 17 9)) s).planner.firstFine.get .a3 = some 9
       ∧ (after (.readEvent .a3 4750 (frameOf 17 9)) (s.setPlanner { s.planner with
            firstFine := PerAxis.const (some 2) })).planner.disturbed.get .a3 = true) := by decide +kernel

/-- Axis 3 at turn 40 and fine 5000 under run 7 in a SEEK_INDEX, with R at a fine and the watch set. -/
def seeking (r : Nat) (w : IndexWatch) (ph : RunPhase) : State :=
  let s := calibrated (tracked 0 .tracking) .a3 fun c => { c with refCount := r, restBand := 10 }
  let s := s.setRecipes { s.recipes with active := List.replicate 16 [⟨.always, .seekIndex .positive 1 9000 0⟩, ⟨.always, .mark⟩] }
  let s := s.setSensor .a3 { s.sensor .a3 with indexWatch := w, restAnchor := some (40 * 131072 + 5000), restStart := some 0 }
  (recorded s .a3 fun x => { x with state := .homing }).setRun .a3 (some (run7 ph))

/-- A crossing at the new count and one beyond it, in both directions; one at the old count is none (R37, R90). -/
theorem test_index_crossing :
    ((after (.readEvent .a3 4750 (frameOf 17 5020)) (seeking 5020 .positive .moving)).run .a3).map (fun x => (x.phase, x.latch)) =
        some (.stopping, some (40 * 131072 + 5020))
    ∧ ((after (.readEvent .a3 4750 (frameOf 17 5020)) (seeking 5020 .positive .moving)).sensor .a3).indexWatch = .off
    ∧ ((after (.readEvent .a3 4750 (frameOf 17 5020)) (seeking 5021 .positive .moving)).sensor .a3).indexWatch = .positive
    ∧ ((after (.readEvent .a3 4750 (frameOf 17 5020)) (seeking 5000 .positive .moving)).sensor .a3).indexWatch = .positive
    ∧ ((after (.readEvent .a3 4750 (frameOf 17 4980)) (seeking 4980 .negative .stopping)).run .a3).map (fun x => (x.phase, x.latch)) =
        some (.stopping, some (40 * 131072 + 4980))
    ∧ (seeking 5020 .positive .moving).stepOf (run7 .moving) = some ⟨.always, .seekIndex .positive 1 9000 0⟩
    ∧ ((seeking 5020 .positive .moving).calOf .a3).refCount < (seeking 5020 .positive .moving).cpt .a3 := by decide +kernel

/-- The same with the run's order in the slot, POSTED or ACTIVE and under its contact watch. -/
def seekingOrder (slot : ChannelState) (ph : RunPhase) : State :=
  let s := seeking 5020 .positive ph
  let s := s.setLoad .a3 { s.load .a3 with liveOrder := some ⟨.moveBy, 21, 0⟩, watch := .ignoring, ignoreTimer := some 9 }
  s.setChannel { s.channel with slot := slot, order := some { order21 with axis := .a3 }, stepTimer := some 9, queue := [.a5] }

/-- A crossing posts STOP for the order of the run: the stop timer runs alone, and the watch of an ACTIVE order ends (R109, R123, R132). -/
theorem test_index_crossing_posts_stop :
    let t := fun (slot : ChannelState) (ph : RunPhase) => after (.readEvent .a3 4750 (frameOf 17 5020)) (seekingOrder slot ph)
    (seekingOrder .posted .ordered).hasLiveOrder .a3 { order21 with axis := .a3 }
    ∧ (seekingOrder .active .moving).hasLiveOrder .a3 { order21 with axis := .a3 }
    ∧ ((t .posted .ordered).run .a3).map (fun x => (x.phase, x.latch)) = some (.stopping, some (40 * 131072 + 5020))
    ∧ (t .posted .ordered).channel.slot = .stopping ∧ (t .posted .ordered).channel.stepTimer = none
    ∧ (t .active .moving).channel.order.map (·.stop) = some true ∧ (t .active .moving).channel.stopTimer = some 500000
    ∧ (t .active .moving).channel.queue = [.a5] ∧ ((t .active .moving).load .a3).watch = .off
    ∧ ((t .active .moving).load .a3).ignoreTimer = none
    ∧ (let s := seeking 5020 .positive .moving
       (after (.readEvent .a3 4750 (frameOf 17 5020)) (s.setRun .a3 none)).channel = s.channel) := by
  refine ⟨⟨rfl, rfl, .inl rfl⟩, ⟨rfl, rfl, .inr rfl⟩, ?_⟩
  decide +kernel

/-- At the edge of rest_band the anchor stands, and beyond it a fresh one is taken; AT_REST is set 20 ms after the rest start (R38). -/
theorem test_rest_detection :
    let s := seeking 0 .off .moving
    ((after (.readEvent .a3 4750 (frameOf 17 5010)) s).sensor .a3).restAnchor = some (40 * 131072 + 5000)
    ∧ ((after (.readEvent .a3 4750 (frameOf 17 5011)) s).sensor .a3).restAnchor = some (40 * 131072 + 5011)
    ∧ ((after (.readEvent .a3 4750 (frameOf 17 5010)) { s with now := 19999 }).record .a3).atRest = false
    ∧ ((after (.readEvent .a3 4750 (frameOf 17 5010)) { s with now := 20000 }).record .a3).atRest = true
    ∧ ((after (.readEvent .a3 4750 (frameOf 17 5010)) (s.setSensor .a3 { s.sensor .a3 with restAnchor := none })).sensor
        .a3).restAnchor = some (40 * 131072 + 5010) := by decide +kernel

/-- An anchored axis whose rest is 20 ms old starts its classification timer with AT_REST; leaving the band stops it (R38, R130). -/
theorem test_rest_starts_class_timer :
    let s := { seeking 0 .off .settling with now := 20000 }
    let t := after (.readEvent .a3 4750 (frameOf 17 5010)) s
    (t.load .a3).classTimer = some 32000
    ∧ ((after (.readEvent .a3 4750 (frameOf 17 5030)) t).load .a3).classTimer = none
    ∧ ((after (.readEvent .a3 4750 (frameOf 17 5030)) t).record .a3).atRest = false := by decide +kernel

/-- Axis 3 stands at the joint value of its motor count less 5248000, one count to a count. -/
def atLimit (home : Int) : State :=
  calibrated (tracked 0 .tracking) .a3 fun c =>
    { c with scale := 2 ^ 24, refCount := 0, homePosition := home - 5247880, softLow := -10, softHigh := 20 }

/-- The soft limits belong to the range; the value beyond 2147483647 is INDEFINITE and sets ARITH_OVERFLOW (R4, R5). -/
theorem test_limits_and_overflow :
    let read := fun (home : Int) => (after (.readEvent .a3 4750 (frameOf 17 5001)) (atLimit home)).record .a3
    ((read 19).position = some 20 ∧ (read 19).beyondLimit = false) ∧ ((read 20).position = some 21 ∧ (read 20).beyondLimit = true)
    ∧ ((read (-11)).position = some (-10) ∧ (read (-11)).beyondLimit = false) ∧ (read (-12)).beyondLimit = true
    ∧ ((read 2147483646).position = some 2147483647 ∧ (read 2147483646).sticky.arithOverflow = false)
    ∧ (read 2147483647).position = none ∧ (read 2147483647).sticky.arithOverflow = true
    ∧ (read 2147483647).beyondLimit = false := by decide +kernel

/-- The turn after 32767 is TURN_RANGE, and a jump ends the run of a HOMING axis SENSOR_LOST (R34, R35). -/
theorem test_turn_range_and_lost_run :
    let s := recorded (tracked 0 .tracking) .a3 fun r => { r with turn := 32767, fine := 131071 }
    ((after (.readEvent .a3 4750 (frameOf 17 0)) s).record .a3).turn = 0
    ∧ ((after (.readEvent .a3 4750 (frameOf 17 0)) s).record .a3).frame = (.unreferenced, .none, .turnRange, 8)
    ∧ (after (.readEvent .a3 4750 (frameOf 17 21385)) (seeking 0 .positive .moving)).lastRuns.get .a3 = some (7, .sensorLost)
    ∧ ((after (.readEvent .a3 4750 (frameOf 17 21385)) (seeking 0 .positive .moving)).record .a3).frame =
        (.unreferenced, .none, .homingFailed, 7) := by decide +kernel

/-- The second failed read in a row is counted, the third loses the sensor, and in LOST nothing more happens. -/
theorem test_failed_reads :
    unpack ((tracked 1 .tracking).calOf .a3).profile [] = none
    ∧ ((after (.readEvent .a3 4750 []) (tracked 1 .tracking)).record .a3).frame = (.referenced, .homed, .recoveryFailed, 7)
    ∧ ((after (.readEvent .a3 4750 []) (tracked 2 .tracking)).record .a3).frame = (.unreferenced, .none, .sensorLost, 8)
    ∧ ((after (.readEvent .a3 4750 []) (tracked 2 .tracking)).sensor .a3).readStatus = .lost
    ∧ ((after (.readEvent .a3 4750 []) (tracked 3 .lost)).sensor .a3).failedReads = 3
    ∧ (after (.readEvent .a3 4750 []) (tracked 3 .lost)).runs = (tracked 3 .lost).runs
    ∧ (after (.readEvent .a3 4750 []) (tracked 3 .lost)).channel = (tracked 3 .lost).channel
    ∧ ((after (.readEvent .a3 4750 []) (tracked 3 .lost)).record .a3).sticky.frameError = true := by decide +kernel

/-- The first sample sets the level; one that agrees clears the candidate. -/
theorem test_switch_first_and_equal :
    (base.sensor .a1).switchSampled = false ∧ (base.sensor .a1).switchLevel = .inactive
    ∧ ((after (.homeSwitchSample .a1 true) base).sensor .a1).switchLevel = .active
    ∧ ((after (.homeSwitchSample .a1 false) base).sensor .a1).switchSampled = true
    ∧ ((after (.homeSwitchSample .a1 true) (base.setSensor .a1 { base.sensor .a1 with
        switchLevel := .active, switchSampled := true, switchCandidate := some (.inactive, 0) })).sensor .a1).switchCandidate =
        none := by decide +kernel

/-- A sampled level INACTIVE with a candidate ACTIVE since a time. -/
def candidate (since : Nat) : State :=
  (calibrated base .a1 fun c => { c with switchFilter := 5 }).setSensor .a1
    { base.sensor .a1 with switchSampled := true, switchCandidate := some (.active, since) }

/-- The candidate becomes the level when it is switch_filter old, and not 1 µs before. -/
theorem test_switch_filter :
    ((candidate 0).sensor .a1).switchLevel ≠ .active
    ∧ ((candidate 0).calOf .a1).switchFilter * 1000 ≤ (candidate 0).now - 0
    ∧ ((after (.homeSwitchSample .a1 true) (candidate 0)).sensor .a1).switchLevel = .active
    ∧ (candidate 1).now - 1 < ((candidate 1).calOf .a1).switchFilter * 1000
    ∧ ((after (.homeSwitchSample .a1 true) (candidate 1)).sensor .a1).switchLevel = .inactive := by decide +kernel

/-- Axis 1 under a SEEK_SWITCH whose order is ACTIVE or POSTED, its candidate ACTIVE since a time at a filter of 5 ms. -/
def seekingSwitch (slot : ChannelState) (ph : RunPhase) (since : Nat) : State :=
  let s := calibrated (ordered slot ph) .a1 fun c => { c with switchFilter := 5 }
  s.setSensor .a1 { s.sensor .a1 with switchSampled := true, switchCandidate := some (.active, since) }

/-- A candidate that is switch_filter old stops the order of the run that seeks its level; 1 µs before, the run stands (R39, R109). -/
theorem test_switch_stops_the_run :
    (seekingSwitch .active .moving 0).seeks (run7 .moving) = some .active
    ∧ ((after (.homeSwitchSample .a1 true) (seekingSwitch .active .moving 0)).run .a1).map (·.phase) = some .stopping
    ∧ (after (.homeSwitchSample .a1 true) (seekingSwitch .active .moving 0)).channel.slot = .stopping
    ∧ (after (.homeSwitchSample .a1 true) (seekingSwitch .posted .ordered 0)).channel.stopTimer = some 500000
    ∧ ((after (.homeSwitchSample .a1 true) (seekingSwitch .active .moving 1)).run .a1).map (·.phase) = some .moving
    ∧ (after (.homeSwitchSample .a1 true) (seekingSwitch .active .moving 1)).channel.slot = .active := by decide +kernel

/-- What `switchChanges` and `hasLiveOrder` ask holds there. -/
theorem test_switch_premises :
    (seekingSwitch .active .moving 0).switchChanges .a1 .active ∧ ¬ (seekingSwitch .active .moving 1).switchChanges .a1 .active
    ∧ base.switchChanges .a1 .active
    ∧ (seekingSwitch .posted .ordered 0).hasLiveOrder .a1 order21 ∧ (seekingSwitch .active .moving 0).hasLiveOrder .a1 order21 := by
  refine ⟨⟨by decide +kernel, .inr (by decide +kernel)⟩, fun h => ?_, ⟨by decide +kernel, .inl rfl⟩, ⟨rfl, rfl, .inl rfl⟩, ⟨rfl, rfl, .inr rfl⟩⟩
  rcases h.2 with h | h
  · exact absurd h (by decide +kernel)
  · exact absurd h (by decide +kernel)

/-- Two samples that agree set the brake level; one alone does not. -/
theorem test_brake_two_samples :
    (base.sensor .a1).previousBrake ≠ some .applied
    ∧ ((after (.brakeSample .a1 true) base).record .a1).brakeApplied = false
    ∧ ((after (.brakeSample .a1 true) (base.setSensor .a1 { base.sensor .a1 with previousBrake := some .applied })).record
        .a1).brakeApplied = true := by decide +kernel

/-- Eleven of the twelve flags are set, all but the brake of axis 6, and its next sample agrees with the last. -/
def almostParked (level : BrakeLevel) : State :=
  let s := { base with records := PerAxis.const { unframed with atRest := true, brakeApplied := true } }
  (recorded s .a6 fun r => { r with brakeApplied := false }).setSensor .a6 { base.sensor .a6 with previousBrake := some level }

/-- The twelfth flag begins the park with park_time; a flag cleared ends it; a flag on another axis missing, nothing begins (R41, R147). -/
theorem test_park_begins_and_ends :
    let t := after (.brakeSample .a6 true) (almostParked .applied)
    t.parked = true ∧ t.cont.park = .timing ∧ t.cont.parkTimer = some 500000
    ∧ (let u := after (.brakeSample .a6 false) (after (.brakeSample .a6 false) t)
       u.parked = false ∧ u.cont.park = .notParked ∧ u.cont.parkTimer = none)
    ∧ (after (.brakeSample .a6 true) (recorded (almostParked .applied) .a1 fun r => { r with atRest := false })).parked = false := by
  decide +kernel

/-- The classification timer starts when the brake of an axis at rest is released, stops when it is applied, and does not start under a
live order (R130). -/
theorem test_class_timer :
    let s := recorded (almostParked .released) .a6 fun r => { r with brakeApplied := true }
    let t := after (.brakeSample .a6 false) s
    (t.load .a6).classTimer = some 32000
    ∧ ((after (.brakeSample .a6 true) (after (.brakeSample .a6 true) t)).load .a6).classTimer = none
    ∧ ((after (.brakeSample .a6 false) (s.setLoad .a6 { resetLoad with liveOrder := some ⟨.jog, 21, 0⟩ })).load .a6).classTimer =
        none := by decide +kernel

/-- A coarse window of 14 codes stays absent of an average at 15; of 15 codes it gives the mean at 16, 1541 here; of 16 it drops the oldest. -/
theorem test_coarse_average :
    ((after (.coarseSample .a3 1541#12) (base.setSensor .a3 { base.sensor .a3 with
        coarseWindow := List.replicate 14 1541 })).sensor .a3).coarseAverage = none
    ∧ ((after (.coarseSample .a3 1541#12) (base.setSensor .a3 { base.sensor .a3 with
        coarseWindow := List.replicate 15 1541 })).sensor .a3).coarseAverage = some 1541
    ∧ ((after (.coarseSample .a3 1541#12) (base.setSensor .a3 { base.sensor .a3 with
        coarseWindow := List.replicate 16 1541 })).sensor .a3).coarseWindow.length = 16 := by decide +kernel

/-- The contact watch of the worked base seek at 108 ms: reference 172, margin 100. -/
def watching (exceed : Nat) : State :=
  (ordered .active .moving).setLoad .a1
    { resetLoad with
      liveOrder := some { kind := .jog, orderId := 21, acceptedAt := 0 }
      contactValues := some { margin := 100, count := 4, rampIgnore := 100 }
      watch := .watching, contactWindow := [180, 1, 172, 185, 290, 265, 300, 310, 320], exceed := exceed }

/-- The fourth exceeding sample is the contact; 272 exceeds nothing; with the watch OFF only the window takes the sample (R136, R137). -/
theorem test_contact :
    ((watching 3).load .a1).watch = .watching
    ∧ ((after (.currentSample .a1 335#16) (watching 3)).record .a1).sticky.contactSeen = true
    ∧ ((after (.currentSample .a1 335#16) (watching 3)).load .a1).watch = .off
    ∧ ((after (.currentSample .a1 272#16) (watching 3)).load .a1).exceed = 0
    ∧ (base.load .a1).watch ≠ .watching := by decide +kernel

/-- What the test of R136 leaves there: 335 exceeds the smallest magnitude of 2 or more, 172, by more than 100, 272 does not, and a window
without such a magnitude tests nothing. The window takes the magnitude in each case. -/
theorem test_contact_reference :
    ((watching 3).load .a1).testLeaves ⟨100, 4, 100⟩ 335 4 ∧ ((watching 2).load .a1).testLeaves ⟨100, 4, 100⟩ 335 3
    ∧ ((watching 3).load .a1).testLeaves ⟨100, 4, 100⟩ 272 0
    ∧ { (watching 3).load .a1 with contactWindow := [1, 0] }.testLeaves ⟨100, 4, 100⟩ 335 0
    ∧ ((after (.currentSample .a1 335#16) (watching 2)).load .a1).exceed = 3
    ∧ ((after (.currentSample .a1 335#16) (watching 2)).load .a1).watch = .watching
    ∧ ((after (.currentSample .a1 335#16) (watching 3)).load .a1).contactWindow.getLast? = some 335 := by
  unfold LoadState.testLeaves
  decide +kernel

/-- The contact stops the order of the run in MOVING with CONTACT pending; a run in ORDERED stands (R109, R137). -/
theorem test_contact_ends_the_run :
    ((watching 3).run .a1).map (·.phase) = some .moving ∧ (watching 3).hasLiveOrder .a1 order21
    ∧ ((after (.currentSample .a1 335#16) (watching 3)).run .a1).map (fun r => (r.phase, r.pendingResult)) =
        some (.ending, some .contact)
    ∧ (after (.currentSample .a1 335#16) (watching 3)).channel.slot = .stopping
    ∧ ((after (.currentSample .a1 272#16) (watching 3)).run .a1).map (·.phase) = some .moving
    ∧ ((after (.currentSample .a1 335#16) ((watching 3).setRun .a1 (some (run7 .ordered)))).run .a1).map (·.phase) =
        some .ordered := by
  refine ⟨by decide +kernel, ⟨rfl, rfl, .inr rfl⟩, by decide +kernel, by decide +kernel, by decide +kernel, by decide +kernel⟩

/-! ### Expiries -/

/-- Every position as its evaluation gives it. -/
def evaluated (s : State) : State := allAxes.foldl (fun t a => t.evaluate false a) s

/-- Axis 3 in a framed state at rest at 140 has a coarse sensor that shows a joint value, with a disagreement count. -/
def diverging (st : AxisState) (n : Nat) (coarse : Int) : State :=
  let s := calibrated (framed st 7) .a3 fun c =>
    { c with profile := p17, refCount := 0, scale := 2 ^ 24, homePosition := 140, softLow := -1000, softHigh := 1000
             coarsePresent := true, coarseRef := 0, coarseHome := coarse, coarseGain := 0, coarseTolerance := 100 }
  evaluated ((recorded s .a3 fun r => { r with atRest := true, disagreements := n }).setSensor .a3
    { base.sensor .a3 with coarseAverage := some 0 })

/-- The third disagreement is counted and the fourth makes the axis SUSPECT; a difference of T agrees; a SUSPECT axis is only warned. -/
theorem test_cross_check :
    (diverging .referenced 2 241).coarseJoint .a3 = some 241 ∧ ((diverging .referenced 2 241).record .a3).position = some 140
    ∧ ((after .crossCheckExpiry (diverging .referenced 2 241)).record .a3).disagreements = 3
    ∧ ((after .crossCheckExpiry (diverging .referenced 2 241)).record .a3).state = .referenced
    ∧ ((after .crossCheckExpiry (diverging .referenced 3 241)).record .a3).state = .suspect
    ∧ ((after .crossCheckExpiry (diverging .referenced 3 241)).record .a3).epoch = 7
    ∧ ((after .crossCheckExpiry (diverging .provisional 3 240)).record .a3).disagreements = 0
    ∧ ((after .crossCheckExpiry (diverging .suspect 4 241)).record .a3).sticky.coarseWarn = true
    ∧ ((after .crossCheckExpiry (diverging .suspect 4 240)).record .a3).disagreements = 4
    ∧ (after .crossCheckExpiry (diverging .referenced 3 241)).crossCheckTimer = 64000 := by decide +kernel

/-- The positions are current there, and the axes without a coarse sensor are not checked. -/
theorem test_cross_check_premises :
    (diverging .referenced 3 241).positionsCurrent ∧ (diverging .referenced 3 241).coarseJoint .a1 = none
    ∧ ((diverging .referenced 3 241).record .a1).state.framed = false := by
  refine ⟨⟨fun a => by cases a <;> decide +kernel, fun h => absurd h (by decide +kernel)⟩, by decide +kernel, by decide +kernel⟩

/-- A full current window and a class timer that has run out. -/
def sampled (v : BitVec 16) (n : Nat) : State :=
  (calibrated base .a2 fun c => { c with emptyMax := 100, loadedMax := 500 }).setLoad .a2
    { resetLoad with window := List.replicate n v, classTimer := some 0, sampleTimer := some 0 }

/-- A mean below empty_max is EMPTY, below loaded_max LOADED, and at loaded_max OVERLOAD (R131). -/
theorem test_classification :
    ((sampled 99 32).load .a2).window.length = 32 ∧ ((sampled 99 32).load .a2).classTimer ≠ none
    ∧ ((after (.classificationTimerExpiry .a2) (sampled 99 32)).record .a2).loadClass = .empty
    ∧ ((after (.classificationTimerExpiry .a2) (sampled 100 32)).record .a2).loadClass = .loaded
    ∧ ((after (.classificationTimerExpiry .a2) (sampled 500 32)).record .a2).loadClass = .overload := by decide +kernel

/-- The load sample takes the most recent magnitude (R133). -/
theorem test_load_sample :
    ((sampled 0xFF9D 1).load .a2).window.getLast? = some 0xFF9D#16 ∧ ((sampled 0xFF9D 1).load .a2).sampleTimer ≠ none
    ∧ ((after (.loadSampleTimerExpiry .a2) (sampled 0xFF9D 1)).record .a2).loadClass = .empty
    ∧ ((after (.loadSampleTimerExpiry .a2) (sampled 0xFF9C 1)).record .a2).loadClass = .loaded := by decide +kernel

/-- The sample of a LOAD_CHECK order that reads a current has been taken. -/
def weighed (v : BitVec 16) (ph : RunPhase) : State :=
  let s := (ordered .active ph).setRecipes { ready.recipes with active := List.replicate 16 [⟨.always, .loadCheck⟩] }
  after (.loadSampleTimerExpiry .a1) ((calibrated s .a1 fun c => { c with emptyMax := 100, loadedMax := 500 }).setLoad .a1
    { resetLoad with window := [v], sampleTimer := some 0, liveOrder := some ⟨.hold, 21, 0⟩ })

/-- The phase and the pending result of the run of axis 1. -/
def pathOf (s : State) : Option (RunPhase × Option RunResult) := (s.run .a1).map fun r => (r.phase, r.pendingResult)

/-- The phase, the pending result and the slot after the sample of a LOAD_CHECK order that reads a current. -/
def loadChecked (v : BitVec 16) (ph : RunPhase) : Option (RunPhase × Option RunResult) × ChannelState :=
  (pathOf (weighed v ph), (weighed v ph).channel.slot)

/-- EMPTY and LOADED meet the LOAD_CHECK, OVERLOAD ends its run, and a run that is not MOVING stands (R92, R109). -/
theorem test_load_check :
    loadChecked 99 .moving = (some (.stopping, none), .stopping) ∧ loadChecked 499 .moving = (some (.stopping, none), .stopping)
    ∧ loadChecked 500 .moving = (some (.ending, some .overload), .stopping)
    ∧ loadChecked 500 .ordered = (some (.ordered, none), .active) := by decide +kernel

/-- A step timer expiry or an abort taken after the sample: the class decides the path against the step timer (R109), an abort has a STOPPING
run end with its result, the first of two, and leaves a pending OVERLOAD (R112, R113). -/
theorem test_stop_after_the_sample :
    pathOf (after .stepTimerExpiry (weighed 99 .moving)) = some (.stopping, none)
    ∧ pathOf (after .stepTimerExpiry (weighed 500 .moving)) = some (.ending, some .overload)
    ∧ pathOf (after (.abortHome .cell 1 [1]) (weighed 500 .moving)) = some (.ending, some .overload)
    ∧ pathOf (after (.inhibit .safety 1 [1]) (after (.abortHome .cell 1 [1]) (weighed 99 .moving))) = some (.ending, some .aborted) := by
  decide +kernel

/-- The step timer's expiry taken first: the sample timer has stopped, and no class is written (R134). -/
theorem test_stop_before_the_sample :
    let s := (ordered .active .moving).setLoad .a1 { resetLoad with window := [500], sampleTimer := some 0, liveOrder := some ⟨.hold, 21, 0⟩ }
    pathOf (after .stepTimerExpiry s) = some (.ending, some .moveTimeout)
    ∧ ((after (.loadSampleTimerExpiry .a1) (after .stepTimerExpiry s)).record .a1).loadClass = .unknown := by decide +kernel

/-- The watch leaves IGNORING. -/
theorem test_ignore :
    ((after (.rampIgnoreExpiry .a1) (base.setLoad .a1 { resetLoad with watch := .ignoring })).load .a1).watch = .watching := by
  decide +kernel

/-- The park timer is about to expire. The newest slot, where there is one, holds the records as they stand but for the turn of axis 3. -/
def parking (newest : Option Slot) (turn : Int) (st : AxisState) : State :=
  let s := (framed st 7).setCal { base.cal with fingerprint := 5 }
  let d := { s.cont.slotA with fingerprint := s.cal.fingerprint, marks := PerAxis.const false
                               entries := (PerAxis.of fun a => (s.record a).entry).set .a3 { (framed .referenced 7).record .a3 with turn := turn }.entry }
  s.setCont { s.cont with park := .timing, parkTimer := some 0, newest := newest, slotA := d }

/-- The reason and target of the capture in flight after the park timer's expiry. -/
def parked (s : State) : Option (CaptureReason × Slot) :=
  (after .parkTimerExpiry s).cont.capture.map fun c => (c.buffer.reason, c.target)

/-- The park test starts a PARK capture into the other slot where an axis differs, by its turn or its class, and none where no axis differs,
in another phase or with the warning ASSERTED (R147, R149). -/
theorem test_park :
    (after .parkTimerExpiry (parking none 0 .referenced)).cont.park = .ready
    ∧ parked (parking none 0 .referenced) = some (.park, .a) ∧ parked (parking (some .a) 1 .referenced) = some (.park, .b)
    ∧ parked (parking (some .a) 0 .suspect) = some (.park, .b) ∧ parked (parking (some .a) 0 .provisional) = none
    ∧ (let s := parking none 0 .referenced
       parked (s.setCont { s.cont with phase := .holdup }) = none ∧ parked (s.setCont { s.cont with pfw := true }) = none) := by
  decide +kernel

/-- Axes that differ there, and a state in which none does. -/
theorem test_park_premises :
    (parking none 0 .referenced).differsFromNewest .a1 ∧ (parking (some .a) 1 .referenced).differsFromNewest .a3
    ∧ (parking (some .a) 0 .suspect).differsFromNewest .a3
    ∧ ∀ a, ¬ (parking (some .a) 0 .provisional).differsFromNewest a := by
  refine ⟨.inl rfl, .inr ⟨.a, rfl, by decide +kernel⟩, .inr ⟨.a, rfl, by decide +kernel⟩, fun a h => ?_⟩
  rcases h with h | ⟨sl, hs, h⟩
  · exact nomatch h
  · cases hs
    revert h
    cases a <;> decide +kernel

/-- A run whose settle time has passed, at the last position of its recipe. -/
def settled (atRest marked : Bool) : State :=
  let s := withRun ready { run7 .settling with position := 1, marked := marked }
  (recorded s .a1 fun r => { r with atRest := atRest }).setSettle .a1 (some 0)

/-- UNSETTLED, HOMED at a new epoch, and NOT_MARKED (R91, R115). -/
theorem test_settle :
    (settled true true).settleTimers.get .a1 ≠ none ∧ (settled true true).run .a1 ≠ none
    ∧ 1 + 1 = ((settled true true).recipeOf (run7 .settling)).length
    ∧ (after (.settleTimerExpiry .a1) (settled false true)).lastRuns.get .a1 = some (7, .unsettled)
    ∧ (after (.settleTimerExpiry .a1) (settled true true)).lastRuns.get .a1 = some (7, .homed)
    ∧ ((after (.settleTimerExpiry .a1) (settled true true)).record .a1).frame = (.provisional, .homed, .recoveryFailed, 6)
    ∧ (after (.settleTimerExpiry .a1) (settled true false)).lastRuns.get .a1 = some (7, .notMarked) := by decide +kernel

/-- The step timer of an order POSTED or ACTIVE posts STOP with MOVE_TIMEOUT pending. -/
theorem test_step_timeout :
    (ordered .active .moving).channel.stepTimer ≠ none ∧ (ordered .active .moving).channel.order = some order21
    ∧ (ordered .active .moving).channel.detached = false ∧ (ordered .active .moving).run .a1 ≠ none
    ∧ (after .stepTimerExpiry (ordered .active .moving)).channel.slot = .stopping
    ∧ (after .stepTimerExpiry (ordered .posted .ordered)).channel.slot = .stopping
    ∧ (after .stepTimerExpiry (ordered .posted .ordered)).channel.stopTimer = some 500000
    ∧ ((after .stepTimerExpiry (ordered .active .moving)).run .a1).map (fun r => (r.phase, r.pendingResult)) =
        some (.ending, some .moveTimeout) := by decide +kernel

/-- The accept timer ends the run and empties the slot. -/
theorem test_accept_timeout :
    (ordered .posted .ordered).channel.acceptTimer ≠ none ∧ (ordered .posted .ordered).channel.queue = []
    ∧ (after .acceptTimerExpiry (ordered .posted .ordered)).lastRuns.get .a1 = some (7, .moveTimeout)
    ∧ (after .acceptTimerExpiry (ordered .posted .ordered)).channel.slot = .empty := by decide +kernel

/-- A run whose stop is being completed. -/
def stopping (ph : RunPhase) (res : Option RunResult) (detached : Bool) : State :=
  let s := (ordered .stopping ph).setRun .a1 (some { run7 ph with orderId := some 21, pendingResult := res })
  s.setChannel { s.channel with detached := detached }

/-- The stop timer blocks the slot and ends the run with its pending result, or MOVE_TIMEOUT; a detached order has no run to end. -/
theorem test_stop_timeout :
    (stopping .ending (some .inhibited) false).channel.stopTimer ≠ none
    ∧ (stopping .ending (some .inhibited) false).channel.slot = .stopping
    ∧ (after .stopTimerExpiry (stopping .ending (some .inhibited) false)).channel.slot = .blocked
    ∧ (after .stopTimerExpiry (stopping .ending (some .inhibited) false)).lastRuns.get .a1 = some (7, .inhibited)
    ∧ (after .stopTimerExpiry (stopping .stopping none false)).lastRuns.get .a1 = some (7, .moveTimeout)
    ∧ (after .stopTimerExpiry (stopping .stopping none true)).lastRuns.get .a1 = none := by decide +kernel

/-- The sensor wait timer fails a head that is not TRACKING, and with the last head RECOVERY_DONE is one record in each queue. -/
theorem test_sensor_wait :
    recovering.planner.sensorWait.isRunning = true ∧ recovering.cont.phase = .restoring ∧ recovering.planner.worklist = [.a1]
    ∧ (recovering.sensor .a1).readStatus ≠ .tracking
    ∧ ((after .sensorWaitTimerExpiry recovering).planner.outcomes.get .a1).reason = some .noSensor
    ∧ ((after .sensorWaitTimerExpiry recovering).record .a1).frame = (.unreferenced, .none, .recoveryFailed, 1)
    ∧ (after .sensorWaitTimerExpiry recovering).cont.phase = .running
    ∧ (((after .sensorWaitTimerExpiry recovering).port .cell).queue.map fun r => r.causes.recoveryDone) = [true] := by
  decide +kernel

/-- The queues are empty there, and PROVISIONAL axes are paired on the Safety Port (R170). -/
theorem test_recovery_done :
    recovering.portsOk
    ∧ (((after .sensorWaitTimerExpiry (recorded recovering .a3 fun r => { r with state := .provisional, epoch := 4 })).port
        .safety).queue.map fun r => (r.causes.ackWanted, r.ackWanted.get .a3)) = [(true, some 4)]
    ∧ (((after .startupComplete (starting.setCal { starting.cal with validity := .invalid })).port .motion).queue.map fun r =>
        r.causes.recoveryDone) = [true] := by
  refine ⟨fun p => by cases p <;> exact ⟨⟨by decide, rfl⟩, by decide, by decide, by decide⟩, by decide +kernel, by decide +kernel⟩

/-- A failed read of STARTUP makes no record, and joins the one record of RECOVERY_DONE; in RESTORING an INVALIDATE makes a record of its
own, and RECOVERY_DONE stands behind it (R189, R190, log 25). -/
theorem test_reports_of_recovery :
    let early := after (.readEvent .a1 4750 []) (starting.setCal { starting.cal with validity := .invalid })
    let during := after (.invalidate .safety 1 [3]) (recorded recovering .a3 fun r => { r with state := .provisional, epoch := 4 })
    (early.port .motion).queue = [] ∧ (early.port .motion).gathered = [.axisState .a1]
    ∧ newestCauses (after .startupComplete early) .motion = some { noCauses with axisState := true, recoveryDone := true }
    ∧ ((after .startupComplete early).port .motion).queue.length = 1
    ∧ newestCauses during .motion = some { noCauses with axisState := true } ∧ (during.port .motion).queue.length = 1
    ∧ ((after .sensorWaitTimerExpiry during).port .motion).queue.length = 2 := by decide +kernel

/-- The head of `slippedCoarse` or `slipped` in RESTORING, its sensor in a read status, its coarse window one sample short. -/
def headOf (s : State) (rs : ReadStatus) (average : Option Nat) : State :=
  let s := s.setSensor .a2 { s.sensor .a2 with readStatus := rs, coarseAverage := average, coarseWindow := List.replicate 15 0 }
  let s := s.setPlanner { s.planner with worklist := [.a2], sensorWait := .running 1, firstFine := PerAxis.const none }
  s.setCont { s.cont with phase := .restoring, newest := some .b }

/-- The read from which tracking starts and the sample that fills the window decide the head, which takes the outcome and is marked. -/
theorem test_head_is_decided :
    let read := after (.readEvent .a2 4750 (frameOf 17 8)) (headOf (slipped 8 210 0) .starting none)
    let sample := after (.coarseSample .a2 0) (headOf (slippedCoarse 8 true 27656200) .tracking none)
    (read.planner.outcomes.get .a2).outcome = .restored ∧ (read.record .a2).frame = (.provisional, .snapshot, .recoveryFailed, 13)
    ∧ (read.record .a2).turn = 211 ∧ read.cont.slotB.marks.get .a2 = true ∧ (.b, .a2) ∈ read.cont.waitingMarks
    ∧ read.planner.worklist = [] ∧ read.cont.phase = .running
    ∧ ((headOf (slippedCoarse 8 true 27656200) .tracking none).sensor .a2).coarseWindow.length = 15
    ∧ (sample.planner.outcomes.get .a2).outcome = .rebuilt ∧ (sample.record .a2).frame = (.provisional, .rebuilt, .recoveryFailed, 1)
    := by decide +kernel

/-- At STARTUP_COMPLETE a head that is TRACKING is decided, and one that is not waits 100 ms. -/
theorem test_startup_takes_the_head :
    worklistOf starting.cal.active = [.a1, .a2, .a3, .a4, .a5, .a6] ∧ (starting.sensor .a1).readStatus = .tracking
    ∧ (starting.calOf .a1).coarsePresent = false
    ∧ ((after .startupComplete starting).planner.outcomes.get .a1).reason = some .notRestorable
    ∧ (after .startupComplete { starting with sensors := PerAxis.const resetSensor }).cont.phase = .restoring
    ∧ (after .startupComplete { starting with sensors := PerAxis.const resetSensor }).planner.sensorWait = .running 100000 := by
  decide +kernel

/-! ### Periods, reads and reports -/

/-- The response that a port holds. -/
def heldOf (s : State) (p : Port) : Option (Nat × ResultCode × List Nat) :=
  (s.port p).held.map fun r => (r.tag.toNat, r.code, r.payload.map BitVec.toNat)

/-- A corrupted READ_RUN is answered with its tag and counted, and the count stays at 65535 (R177). -/
theorem test_frame_error :
    base.acting = true
    ∧ heldOf (after (.frameError .cell [3, 0x03, 18, 3, 0, 0]) base) .cell = some (18, .frameError, [])
    ∧ ((after (.frameError .cell [3, 0x03, 18, 3, 0, 0]) base).port .cell).frameErrors = 1
    ∧ ((after (.frameError .cell [1]) (base.setPort .cell { resetPort with frameErrors := 65535 })).port .cell).frameErrors = 65535
    ∧ heldOf (after (.frameError .cell [1]) base) .cell = some (0, .frameError, []) := by decide +kernel

/-- An unknown kind is refused, and a fetch takes the held response. -/
theorem test_unknown_and_fetch :
    heldOf (after (.unknownKind .cell 0x7F 9 []) base) .cell = some (9, .unknown, [])
    ∧ heldOf (after (.fetch .cell) (after (.unknownKind .cell 0x7F 9 []) base)) .cell = none := by decide +kernel

/-- Frames that fail: a length of 1 or 123, a frame one byte short, a CRC that differs; and one that does not. -/
theorem test_frame_error_conditions :
    frameFails [1] = true ∧ frameFails (123 :: List.replicate 125 0) = true ∧ frameFails [2, 0x09, 5, 0x48] = true
    ∧ frameFails [2, 0x09, 5, 0x48, 0xC0] = true ∧ frameFails [2, 0x09, 5, 0x48, 0xC1] = false := by decide +kernel

/-- A well-formed request has a frame. -/
theorem test_encode_premises :
    (Instr.home .cell 17 [2]).wf = true
    ∧ encodePeriod (.home .cell 17 [2]) = some (.cell, [3, 0x20, 17, 2, 0x89, 0xDA]) := by decide +kernel

/-- READ_AXIS of axis 3 of a framed state: PROVISIONAL at epoch 7, origin HOMED, position 140. -/
theorem test_read_axis :
    heldOf (after (.readAxis .safety 4 [3]) (framed .provisional 7)) .safety =
      some (4, .done, (((framed .provisional 7).record .a3).bytes).map BitVec.toNat)
    ∧ heldOf (after (.readAxis .safety 4 [0]) base) .safety = some (4, .range, [])
    ∧ heldOf (after (.readAxis .safety 4 [7]) base) .safety = some (4, .range, []) := by decide +kernel

/-- The ranges of READ_CAL and READ_STEP at their ends. -/
theorem test_read_ranges :
    heldOf (after (.readCal .cell 4 [1, 7]) base) .cell = some (4, .range, [])
    ∧ heldOf (after (.readCal .cell 4 [2, 6]) base) .cell = some (4, .range, [])
    ∧ heldOf (after (.readStep .cell 4 [1, 15, 12]) base) .cell = some (4, .range, [])
    ∧ heldOf (after (.readStep .cell 4 [0, 16, 11]) base) .cell = some (4, .range, [])
    ∧ (heldOf (after (.readStep .cell 4 [1, 15, 11]) base) .cell).map (fun x => x.2.1) = some .done
    ∧ (heldOf (after (.readCal .cell 4 [1, 6]) base) .cell).map (fun x => x.2.1) = some .done := by decide +kernel

/-- READ_MOVE_ORDER belongs to the Motion Port. -/
theorem test_read_move_order :
    heldOf (after (.readMoveOrder .cell 4 []) base) .cell = some (4, .notPermitted, [])
    ∧ (heldOf (after (.readMoveOrder .motion 4 []) base) .motion).map (fun x => x.2.1) = some .done := by decide +kernel

/-- The reads of the whole part are answered DONE. -/
theorem test_reads_done :
    (heldOf (after (.readAxes .cell 1 []) base) .cell).map (fun x => x.2.1) = some .done
    ∧ (heldOf (after (.readRun .cell 1 [6]) base) .cell).map (fun x => x.2.1) = some .done
    ∧ (heldOf (after (.readRecovery .cell 1 []) base) .cell).map (fun x => x.2.1) = some .done
    ∧ (heldOf (after (.readSlots .cell 1 []) base) .cell).map (fun x => x.2.1) = some .done
    ∧ (heldOf (after (.identify .cell 1 []) base) .cell).map (fun x => x.2.1) = some .done := by decide +kernel

/-- A queued record with one cause. -/
def recordOf (causes : CauseSet) : ReportRecord :=
  { causes := causes, axisList := PerAxis.of fun a => some (base.record a).view, runResults := PerAxis.const none
    permitWanted := PerAxis.const none, ackWanted := PerAxis.const none, blocked := none
    committedAxes := PerAxis.const false, committedDevice := false }

/-- A Safety Port with some records queued. -/
def queued (n : Nat) : State :=
  base.setPort .safety { resetPort with
    queue := List.replicate n (recordOf { noCauses with axisState := true }), alert := decide (0 < n) }

/-- READ_REPORT of the last record lets the alert line fall; of an empty queue it changes nothing. -/
theorem test_read_report :
    ((queued 1).port .safety).queueOk ∧ ((queued 0).port .safety).queueOk
    ∧ ((after (.readReport .safety 6 []) (queued 1)).port .safety).alert = false
    ∧ ((after (.readReport .safety 6 []) (queued 2)).port .safety).alert = true
    ∧ heldOf (after (.readReport .safety 6 []) (queued 0)) .safety = some (6, .done, []) := by
  unfold PortState.queueOk
  decide +kernel

/-- SUBSCRIBE to axis 1 and all nine causes drops the other axes from a queued record; a tenth cause is RANGE. -/
theorem test_subscribe :
    (axisSetOfMask 1).isSome = true ∧ (causeSetOfMask (1 * 256 + 255)).isSome = true ∧ causeSetOfMask (2 * 256) = none
    ∧ (((after (.subscribe .safety 6 [1, 1, 255]) (queued 1)).port .safety).queue.map fun r =>
        (r.axisList.get .a1).isSome && (r.axisList.get .a2).isNone) = [true]
    ∧ heldOf (after (.subscribe .safety 6 [1, 2, 0]) (queued 1)) .safety = some (6, .range, []) := by decide +kernel

/-- A delivery of two results of one axis keeps the later, and the pairs of RECOVERY_DONE are ack-wanted entries on the Safety Port. -/
theorem test_delivery_lists :
    let pairs := (PerAxis.const none).set .a2 (some 5#16)
    let es : List ReportEvent := [.runEnd .a1 .cell 7 .noIndex, .runEnd .a1 .cell 8 .homed, .recoveryDone pairs]
    let y := deliverTo .safety (PerAxis.const none) es ((queued 0).port .safety)
    (y.queue.map fun r => (r.runResults.get .a1, r.ackWanted.get .a2, r.causes.ackWanted)) = [(some (8, .homed), some 5, true)]
    ∧ latest (runResultOf .a1) es = some (8, .homed) ∧ latest (ackWantedOf .motion .a2) es = none := by decide +kernel

/-- A delivery to 3 records appends, and to 4 updates the newest. -/
theorem test_delivery :
    delivered .safety ((queued 3).port .safety) (.ackWanted .a3 7) = true
    ∧ (deliverTo .safety (PerAxis.const none) [.ackWanted .a3 7] ((queued 3).port .safety)).queue.length = 4
    ∧ (deliverTo .safety (PerAxis.const none) [.ackWanted .a3 7] ((queued 4).port .safety)).queue.length = 4
    ∧ ((deliverTo .safety (PerAxis.const none) [.ackWanted .a3 7] ((queued 4).port .safety)).queue.map fun r =>
        r.ackWanted.get .a3) = [none, none, none, some 7] := by decide +kernel

/-! ### Authority -/

/-- Axis 2 claimed by the Motion Port. -/
def claimed : State := base.setAuth .a2 { base.auth .a2 with claim := some .motion }

/-- CLAIM of axes 1 and 2 from the Cell Port is DENIED; from the Motion Port it takes both; from the Safety Port it is not permitted. -/
theorem test_claim :
    (axisSetOfMask 3).isSome = true ∧ claimantOf .cell = some .cell
    ∧ (heldOf (after (.claim .cell 1 [3]) claimed) .cell).map (fun x => x.2.1) = some .denied
    ∧ ((after (.claim .motion 1 [3]) claimed).auth .a1).claim = some .motion
    ∧ ((after (.claim .motion 1 [3]) claimed).auth .a3).claim = none
    ∧ heldOf (after (.claim .safety 1 [3]) claimed) .safety = some (1, .notPermitted, [])
    ∧ heldOf (after (.claim .cell 1 [64]) claimed) .cell = some (1, .range, []) := by decide +kernel

/-- A CLAIM takes an edit held by the port that loses the authority. -/
theorem test_claim_discards_edit :
    let s := base.setCal { base.cal with axisEditor := base.cal.axisEditor.set .a2 (some .cell) }
    s.authorityOf .a2 ≠ .motion ∧ (after (.claim .motion 1 [2]) s).cal.axisEditor.get .a2 = none := by decide +kernel

/-- RELEASE by the claimant, and a run of it that waits for its permit ends RELEASED. -/
theorem test_release :
    let s := waiting.setAuth .a1 { waiting.auth .a1 with claim := some .cell }
    (s.auth .a1).claim = some .cell ∧ ((after (.release .cell 1 [1]) s).auth .a1).claim = none
    ∧ (after (.release .cell 1 [1]) s).lastRuns.get .a1 = some (7, .released)
    ∧ (heldOf (after (.release .cell 1 [3]) claimed) .cell).map (fun x => x.2.1) = some .denied := by decide +kernel

/-- FORCE_RELEASE clears a claim, ends a waiting run and stops a moving one. -/
theorem test_force_release :
    ((after (.forceRelease .safety 1 [2]) claimed).auth .a2).claim = none
    ∧ (after (.forceRelease .safety 1 [1]) waiting).lastRuns.get .a1 = some (7, .released)
    ∧ ((after (.forceRelease .safety 1 [1]) (ordered .active .moving)).run .a1).map (·.phase) = some .ending := by decide +kernel

/-- INHIBIT ends a settling run, stops a moving one and leaves an ending one. -/
theorem test_inhibit :
    (base.auth .a1).inhibited = false ∧ ((after (.inhibit .safety 1 [1]) base).auth .a1).inhibited = true
    ∧ (after (.inhibit .safety 1 [1]) (settled true true)).lastRuns.get .a1 = some (7, .inhibited)
    ∧ ((after (.inhibit .safety 1 [1]) (ordered .active .moving)).run .a1).map (·.pendingResult) = some (some .inhibited)
    ∧ ((after (.inhibit .safety 1 [1]) (stopping .ending (some .aborted) false)).run .a1).map (·.pendingResult) =
        some (some .aborted) := by decide +kernel

/-- Axis 1 with its order in the slot, and run 8 of axis 2 at the head of the queue before axis 3. -/
def queuedBehind (slot : ChannelState) (ph : RunPhase) : State :=
  let s := (ordered slot ph).setRun .a2 (some { run7 .waitChannel with runId := 8 })
  s.setChannel { s.channel with queue := [.a2, .a3] }

/-- What an abort left: the pending result of axis 1, the slot, whether STOP stands in the order, the queue, and the last run of axis 2. -/
structure Aborted where
  pending : Option RunResult
  slot : ChannelState
  stop : Bool
  queue : List Axis
  last : Option (Nat × RunResult)
deriving DecidableEq, Repr

/-- What a command that aborts runs leaves. -/
def abortedBy (c : Instr) (s : State) : Aborted :=
  let t := after c s
  { pending := (t.run .a1).bind (·.pendingResult), slot := t.channel.slot, stop := t.channel.order.any (·.stop)
    queue := t.channel.queue, last := t.lastRuns.get .a2 }

/-- Every source of an abort posts STOP for a live order and takes a waiting run out of the queue (R72, R75, R112, R119). -/
theorem test_aborts_post_stop :
    abortedBy (.forceRelease .safety 1 [3]) (queuedBehind .active .moving) =
      ⟨some .released, .stopping, true, [.a3], some (8, .released)⟩
    ∧ abortedBy (.inhibit .safety 1 [3]) (queuedBehind .posted .ordered) =
      ⟨some .inhibited, .stopping, true, [.a3], some (8, .inhibited)⟩
    ∧ abortedBy (.abortHome .cell 1 [1]) (queuedBehind .active .moving) =
      ⟨some .aborted, .stopping, true, [.a2, .a3], none⟩
    ∧ abortedBy (.abortHome .cell 1 [2]) (queuedBehind .active .moving) = ⟨none, .active, false, [.a3], some (8, .aborted)⟩
    ∧ abortedBy (.claim .motion 1 [3]) (queuedBehind .active .moving) =
      ⟨some .released, .stopping, true, [.a3], some (8, .released)⟩
    ∧ (let s := queuedBehind .posted .ordered
       abortedBy (.release .cell 1 [3]) (s.setAuth .a1 { s.auth .a1 with claim := some .cell }) =
         ⟨some .released, .stopping, true, [.a2, .a3], none⟩) := by decide +kernel

/-- The slot holds the live order of axis 1 there. -/
theorem test_aborts_premises :
    (queuedBehind .active .moving).hasLiveOrder .a1 order21 ∧ (queuedBehind .posted .ordered).hasLiveOrder .a1 order21
    ∧ (queuedBehind .active .moving).abortEndsAtOnce .a2 = true ∧ (queuedBehind .active .moving).abortEndsAtOnce .a1 = false :=
  ⟨⟨rfl, rfl, .inr rfl⟩, ⟨rfl, rfl, .inl rfl⟩, by decide +kernel, by decide +kernel⟩

/-- UNINHIBIT at the ends of its mask, and from another port. -/
theorem test_uninhibit :
    let s := base.setAuth .a6 { base.auth .a6 with inhibited := true }
    ((after (.uninhibit .safety 1 [63]) s).auth .a6).inhibited = false
    ∧ heldOf (after (.uninhibit .safety 1 [64]) s) .safety = some (1, .range, [])
    ∧ heldOf (after (.uninhibit .cell 1 [32]) s) .cell = some (1, .notPermitted, []) := by decide +kernel

/-- ACKNOWLEDGE of a pair that matches, of one whose epoch is old, and of an axis that is not PROVISIONAL (R79). -/
theorem test_acknowledge :
    formAcknowledge [1, 3, 0, 7] = some [(.a3, 7)]
    ∧ ((after (.acknowledge .safety 1 [1, 3, 0, 7]) (framed .provisional 7)).record .a3).state = .referenced
    ∧ heldOf (after (.acknowledge .safety 1 [1, 3, 0, 7]) (framed .provisional 7)) .safety = some (1, .done, [1, 3, 0, 4, 0, 7])
    ∧ heldOf (after (.acknowledge .safety 1 [1, 3, 0, 7]) (framed .provisional 8)) .safety = some (1, .done, [1, 3, 1, 3, 0, 8])
    ∧ heldOf (after (.acknowledge .safety 1 [1, 3, 0, 7]) (framed .suspect 7)) .safety = some (1, .done, [1, 3, 2, 5, 0, 7]) := by
  decide +kernel

/-- GRANT_PERMIT that matches, that names another run, and of an inhibited axis; a run goes on to its first order. -/
theorem test_grant :
    ((after (.grantPermit .safety 1 [1, 7]) waiting).auth .a1).permit = .held
    ∧ heldOf (after (.grantPermit .safety 1 [1, 8]) waiting) .safety = some (1, .stale, [])
    ∧ heldOf (after (.grantPermit .safety 1 [1, 7]) (waiting.setAuth .a1 { waiting.auth .a1 with inhibited := true })) .safety =
        some (1, .inhibited, [])
    ∧ (after (.grantPermit .safety 1 [1, 7]) waiting).channel.slot = .posted := by decide +kernel

/-- A run whose first step always asks an order joins the queue of a slot that is not free. -/
theorem test_grant_queues :
    let s := (waiting.setRecipes { waiting.recipes with active := List.replicate 16 [⟨.always, .moveBy 500 8 0⟩] }).setChannel
      (ordered .active .moving).channel
    s.channel.slot ≠ .empty ∧ s.stepOf (run7 .waitPermit) = some ⟨.always, .moveBy 500 8 0⟩
    ∧ (after (.grantPermit .safety 1 [1, 7]) s).channel.queue = [.a1] := by decide +kernel

/-- The permit timer ends the run. -/
theorem test_permit_timeout :
    (waiting.auth .a1).permitTimer ≠ none ∧ waiting.run .a1 = some (run7 .waitPermit)
    ∧ (after (.permitTimerExpiry .a1) waiting).lastRuns.get .a1 = some (7, .permitTimeout)
    ∧ ((after (.permitTimerExpiry .a1) waiting).record .a1).frame = (.unreferenced, .none, .homingFailed, 5) := by decide +kernel

/-- REFUSE_PERMIT that matches, also of an inhibited axis; that names another run; run id 0; axis 7; from the Cell Port (R82). -/
theorem test_refuse_permit :
    (after (.refusePermit .safety 1 [1, 7]) waiting).lastRuns.get .a1 = some (7, .permitRefused)
    ∧ (after (.refusePermit .safety 1 [1, 7]) (waiting.setAuth .a1 { waiting.auth .a1 with inhibited := true })).lastRuns.get .a1 =
        some (7, .permitRefused)
    ∧ heldOf (after (.refusePermit .safety 1 [1, 8]) waiting) .safety = some (1, .stale, [])
    ∧ heldOf (after (.refusePermit .safety 1 [1, 0]) waiting) .safety = some (1, .range, [])
    ∧ heldOf (after (.refusePermit .safety 1 [7, 7]) waiting) .safety = some (1, .range, [])
    ∧ heldOf (after (.refusePermit .cell 1 [1, 7]) waiting) .cell = some (1, .notPermitted, []) := by decide +kernel

/-! ### References -/

/-- HOME refused by the first checks of R103, in their order. -/
theorem test_home_refused :
    heldOf (after (.home .safety 1 [2]) ready) .safety = some (1, .notPermitted, [])
    ∧ heldOf (after (.home .cell 1 [0]) ready) .cell = some (1, .range, [])
    ∧ heldOf (after (.home .cell 1 [7]) ready) .cell = some (1, .range, [])
    ∧ heldOf (after (.home .cell 1 [2]) starting) .cell = some (1, .notReady, [])
    ∧ heldOf (after (.home .cell 1 [2]) base) .cell = some (1, .notReady, []) := by decide +kernel

/-- HOME refused by the later checks of R103. -/
theorem test_home_refused_later :
    heldOf (after (.home .motion 1 [2]) ready) .motion = some (1, .denied, [])
    ∧ heldOf (after (.home .cell 1 [2]) (ready.setAuth .a2 { ready.auth .a2 with inhibited := true })) .cell = some (1, .inhibited, [])
    ∧ heldOf (after (.home .cell 1 [1]) waiting) .cell = some (1, .wrongState, [])
    ∧ heldOf (after (.home .cell 1 [1]) (ready.setChannel { (ordered .blocked .moving).channel with detached := true })) .cell =
        some (1, .busy, []) := by decide +kernel

/-- HOME (2) with the run-id counter at 9: run 9 in WAIT_PERMIT, its permit WANTED for permit_timeout. -/
theorem test_home :
    let s := { ready with runIdCounter := 9 }
    asksPermit (s.homingRecipe .a2) = true ∧ s.authorityOf .a2 = .cell ∧ s.holdsDetachedOf .a2 = false
    ∧ (s.record .a2).state ≠ .homing ∧ (s.record .a2).state ≠ .restoring
    ∧ heldOf (after (.home .cell 17 [2]) s) .cell = some (17, .accepted, [9, 1])
    ∧ ((after (.home .cell 17 [2]) s).run .a2).map (·.phase) = some .waitPermit
    ∧ ((after (.home .cell 17 [2]) s).auth .a2).permitRun = some 9
    ∧ ((after (.home .cell 17 [2]) s).record .a2).epoch = 1 ∧ (after (.home .cell 17 [2]) s).runIdCounter = 10 := by decide +kernel

/-- A framed axis leaves its frame at a new epoch, and the counter passes from 255 to 1 (R15, R101). -/
theorem test_home_framed :
    let s := { recorded ready .a2 (fun r => { r with state := .referenced, origin := .homed, epoch := 0xFFFF }) with runIdCounter := 255 }
    ((after (.home .cell 17 [2]) s).record .a2).epoch = 0 ∧ ((after (.home .cell 17 [2]) s).record .a2).state = .homing
    ∧ (after (.home .cell 17 [2]) s).runIdCounter = 1 := by decide +kernel

/-- ABORT_HOME without the authority, without a run, of a waiting run, of a moving one and of an ending one. -/
theorem test_abort_home :
    heldOf (after (.abortHome .motion 1 [1]) waiting) .motion = some (1, .denied, [])
    ∧ heldOf (after (.abortHome .cell 1 [1]) ready) .cell = some (1, .wrongState, [])
    ∧ (after (.abortHome .cell 1 [1]) waiting).lastRuns.get .a1 = some (7, .aborted)
    ∧ ((after (.abortHome .cell 1 [1]) (ordered .active .moving)).run .a1).map (·.pendingResult) = some (some .aborted)
    ∧ ((after (.abortHome .cell 1 [1]) (stopping .ending (some .inhibited) false)).run .a1).map (·.pendingResult) =
        some (some .inhibited) := by decide +kernel

/-- INVALIDATE of a framed axis, also from the Safety Port; of an UNREFERENCED and a RESTORING one; without the authority. -/
theorem test_invalidate :
    ((after (.invalidate .safety 1 [3]) (framed .suspect 7)).record .a3).frame = (.unreferenced, .none, .invalidated, 8)
    ∧ heldOf (after (.invalidate .cell 1 [1]) (framed .suspect 7)) .cell = some (1, .wrongState, [])
    ∧ heldOf (after (.invalidate .cell 1 [1]) recovering) .cell = some (1, .notReady, [])
    ∧ heldOf (after (.invalidate .motion 1 [3]) (framed .suspect 7)) .motion = some (1, .denied, [])
    ∧ heldOf (after (.invalidate .cell 1 [7]) base) .cell = some (1, .range, []) := by decide +kernel

/-- ACCEPT_REFERENCE of a SUSPECT axis, of a PROVISIONAL one, and its refusals. -/
theorem test_accept_reference :
    ((after (.acceptReference .cell 1 [3]) (framed .suspect 7)).record .a3).frame = (.provisional, .homed, .recoveryFailed, 8)
    ∧ heldOf (after (.acceptReference .cell 1 [3]) (framed .provisional 7)) .cell = some (1, .wrongState, [])
    ∧ heldOf (after (.acceptReference .motion 1 [3]) (framed .suspect 7)) .motion = some (1, .denied, [])
    ∧ heldOf (after (.acceptReference .safety 1 [3]) (framed .suspect 7)) .safety = some (1, .notPermitted, [])
    ∧ heldOf (after (.acceptReference .cell 1 [1]) recovering) .cell = some (1, .notReady, [])
    ∧ heldOf (after (.acceptReference .cell 1 [0]) base) .cell = some (1, .range, []) := by decide +kernel

/-- CLEAR_FLAGS of FRAME_ERROR on axis 3 leaves its other flags and the other axes; a fifth flag is RANGE. -/
theorem test_clear_flags :
    let s := { base with records := PerAxis.const { unframed with sticky := ⟨true, true, true, true⟩ } }
    axisSetOfMask 4 = some ⟨false, false, true, false, false, false⟩ ∧ stickyOfMask 2 = some ⟨false, true, false, false⟩
    ∧ ((after (.clearFlags .safety 1 [4, 2]) s).record .a3).sticky = ⟨true, false, true, true⟩
    ∧ ((after (.clearFlags .safety 1 [4, 2]) s).record .a2).sticky = ⟨true, true, true, true⟩
    ∧ (after (.clearFlags .safety 1 [4, 2]) s).port .safety = { s.port .safety with held := some ⟨1, .done, []⟩ }
    ∧ heldOf (after (.clearFlags .safety 1 [4, 16]) s) .safety = some (1, .range, []) := by decide +kernel

/-! ### Events at the ports -/

/-- INVALIDATE reaches a subscriber and not a port without the cause; HOME reaches the Safety Port; a HOMED run its owner and the
Safety Port (R188). -/
theorem test_events_reach_ports :
    newestCauses (after (.invalidate .safety 1 [3]) (framed .suspect 7)) .cell = some { noCauses with axisState := true }
    ∧ newestCauses (after (.invalidate .safety 1 [3]) ((framed .suspect 7).setPort .cell { resetPort with causeMask := noCauses }))
        .cell = none
    ∧ newestCauses (after (.home .cell 17 [2]) ready) .safety = some { noCauses with axisState := true, permitWanted := true }
    ∧ newestCauses (after (.settleTimerExpiry .a1) ((settled true true).setPort .cell { resetPort with causeMask := noCauses }))
        .cell = some { noCauses with runEnd := true }
    ∧ newestCauses (after (.settleTimerExpiry .a1) (settled true true)) .safety =
        some { noCauses with axisState := true, runEnd := true, ackWanted := true } := by decide +kernel

/-- SNAPSHOT reaches the Cell Port alone, MOVE_ORDER the Motion Port. -/
theorem test_events_reach_ports_too :
    let blocked := (ordered .blocked .waitChannel).setChannel { (ordered .blocked .waitChannel).channel with detached := true, queue := [.a1] }
    newestCauses (after .retentionByteWritten committing) .cell = some { noCauses with snapshot := true }
    ∧ newestCauses (after .retentionByteWritten committing) .motion = none
    ∧ newestCauses (after (.channelReset .motion 1 []) blocked) .motion = some { noCauses with moveOrder := true } := by
  decide +kernel

/-- The ports are well kept in those states. -/
theorem test_events_reach_ports_premises :
    base.portsOk ∧ (stopping .ending none false).portsOk ∧ committing.portsOk ∧ base.cont.phase = .running := by
  refine ⟨fun p => by cases p <;> exact ⟨⟨by decide, rfl⟩, by decide, by decide, by decide⟩,
    fun p => by cases p <;> exact ⟨⟨by decide, rfl⟩, by decide, by decide, by decide⟩, fun p => by cases p <;> exact ⟨⟨by decide, rfl⟩, by decide, by decide, by decide⟩, rfl⟩

/-! ### The Move Channel -/

/-- MOVE_ACCEPT of the POSTED order, of another id, and from the Cell Port. -/
theorem test_move_accept :
    (after (.moveAccept .motion 1 [21]) (ordered .posted .ordered)).channel.slot = .active
    ∧ ((after (.moveAccept .motion 1 [21]) (ordered .posted .ordered)).load .a1).watch = .ignoring
    ∧ ((after (.moveAccept .motion 1 [21]) (ordered .posted .ordered)).run .a1).map (·.phase) = some .moving
    ∧ heldOf (after (.moveAccept .motion 1 [20]) (ordered .posted .ordered)) .motion = some (1, .stale, [])
    ∧ heldOf (after (.moveAccept .cell 1 [21]) (ordered .posted .ordered)) .cell = some (1, .notPermitted, []) := by decide +kernel

/-- What the Load Monitor holds of axis 1 once an order of a kind is accepted. -/
def acceptedLoad (k : OrderKind) (delay : Option Nat) (ignore : Nat) : LoadState :=
  let s := ordered .posted .ordered
  let s := s.setChannel { s.channel with order := some { order21 with kind := k, loadDelay := delay, rampIgnore := ignore } }
  (after (.moveAccept .motion 1 [21]) (s.setLoad .a1 { resetLoad with contactWindow := [5], exceed := 3, classTimer := some 9 })).load .a1

/-- Axis 1 with a live order of a kind. -/
def accepted (k : OrderKind) (ignore : Nat) : LoadState :=
  { resetLoad with liveOrder := some { kind := k, orderId := 21, acceptedAt := 5000 }
                   contactValues := some { margin := 100, count := 4, rampIgnore := ignore } }

/-- A JOG with a ramp_ignore, a MOVE_BY without, and a HOLD (R132, R133, R135). -/
theorem test_move_accept_load :
    acceptedLoad .jog none 100 = { accepted .jog 100 with watch := .ignoring, ignoreTimer := some 100000 }
    ∧ acceptedLoad .moveBy none 0 = { accepted .moveBy 0 with watch := .watching }
    ∧ acceptedLoad .hold (some 200) 100 = { accepted .hold 100 with sampleTimer := some 200000 } := by decide +kernel

/-- MOVE_END: STALE, and a run that ends with its pending result or MOVE_REJECTED; a detached order empties the slot (R110, R124, R127). -/
theorem test_move_end :
    moveOutcomeOfCode 1 = some .stopped ∧ moveOutcomeOfCode 2 = some .refused
    ∧ heldOf (after (.moveEnd .motion 1 [21, 1]) (ordered .posted .ordered)) .motion = some (1, .stale, [])
    ∧ (after (.moveEnd .motion 1 [21, 2]) (ordered .posted .ordered)).lastRuns.get .a1 = some (7, .moveRejected)
    ∧ (after (.moveEnd .motion 1 [21, 1]) (stopping .ending (some .inhibited) false)).lastRuns.get .a1 = some (7, .inhibited)
    ∧ (after (.moveEnd .motion 1 [21, 1]) (stopping .ending (some .inhibited) false)).channel.slot = .empty
    ∧ (after (.moveEnd .motion 1 [21, 3]) (ordered .active .moving)).lastRuns.get .a1 = some (7, .moveRejected)
    ∧ (after (.moveEnd .motion 1 [21, 1]) (stopping .stopping none true)).channel.slot = .empty := by decide +kernel

/-- Axis 1 at turn 3 and fine 100 with its order in the slot, under a recipe and a latch. -/
def running (steps : List Step) (slot : ChannelState) (ph : RunPhase) (latch : Option Int) : State :=
  let s := (ordered slot ph).setRecipes { ready.recipes with active := List.replicate 16 steps }
  (recorded s .a1 fun r => { r with turn := 3, fine := 100 }).setRun .a1 (some { run7 ph with latch := latch })

/-- The run of axis 1 after MOVE_END: position, phase, marked and latch. -/
def runAfterEnd (out : Byte) (s : State) : Option (Nat × RunPhase × Bool × Option Int) :=
  ((after (.moveEnd .motion 1 [21, out]) s).run .a1).map fun r => (r.position, r.phase, r.marked, r.latch)

/-- A step that SETTLEs. -/
def settle100 : Step := ⟨.always, .settle 100⟩

/-- What REACHED gives a run that is MOVING, by its step (R110). -/
theorem test_move_end_reached :
    let last := fun (b : StepBody) => (after (.moveEnd .motion 1 [21, 0]) (running [⟨.always, b⟩] .active .moving none)).lastRuns.get .a1
    last (.seekSwitch .negative 8 1000 0) = some (7, .noSwitch) ∧ last (.leaveSwitch .negative 8 1000 0) = some (7, .switchStuck)
    ∧ last (.seekIndex .negative 8 1000 0) = some (7, .noIndex) ∧ last .loadCheck = some (7, .moveRejected)
    ∧ last (.moveBy 500 8 0) = some (7, .notMarked)
    ∧ (after (.moveEnd .motion 1 [21, 1]) (running [⟨.always, .mark⟩] .stopping .stopping none)).lastRuns.get .a1 =
        some (7, .notMarked) := by decide +kernel

/-- A MARK rebases on its latch: turn 3 less the latched turn 2, the latch at turn 0; without a latch the run ends NO_INDEX (R3, R94). -/
theorem test_steps_go_on_mark :
    let steps : List Step := [⟨.always, .seekIndex .positive 1 9000 0⟩, ⟨.always, .mark⟩, settle100]
    let s := running steps .stopping .stopping (some (2 * 65536 + 7))
    s.cpt .a1 = 65536 ∧ runAfterEnd 1 s = some (2, .settling, true, some 7)
    ∧ ((after (.moveEnd .motion 1 [21, 1]) s).record .a1).turn = 1
    ∧ (after (.moveEnd .motion 1 [21, 1]) (running steps .stopping .stopping none)).lastRuns.get .a1 = some (7, .noIndex)
    ∧ (after (.moveEnd .motion 1 [21, 1]) (running steps .stopping .stopping (some (-32765 * 65536)))).lastRuns.get .a1 =
        some (7, .noIndex) := by decide +kernel

/-- Position and phase of the run of axis 1 after a MOVE_BY that is REACHED, with a step and a SETTLE behind it. -/
def runBehind (st : Step) : Option (Nat × RunPhase) :=
  (runAfterEnd 0 (running [⟨.always, .moveBy 500 8 0⟩, st, settle100] .active .moving none)).map fun r => (r.1, r.2.1)

/-- A step passed by its condition, a CAPTURE, a VERIFY_COARSE without a sensor, a switch that holds, and a step that asks its order. -/
theorem test_steps_go_on :
    runBehind ⟨.ifL0, .mark⟩ = some (2, .settling) ∧ runBehind ⟨.always, .capture .l0 .indexLatched⟩ = some (2, .settling)
    ∧ runBehind ⟨.always, .verifyCoarse⟩ = some (2, .settling)
    ∧ runBehind ⟨.always, .leaveSwitch .positive 8 100 0⟩ = some (2, .settling)
    ∧ runBehind ⟨.always, .seekSwitch .positive 8 100 0⟩ = some (1, .ordered) ∧ runBehind settle100 = some (1, .settling) := by
  decide +kernel

/-- A SEEK_INDEX behind the step is posted with its timers and its watch (R87, R108, R120). -/
theorem test_posted_order :
    let steps : List Step := [⟨.always, .moveBy 500 8 0⟩, ⟨.always, .seekIndex .negative 1 9000 20⟩]
    let t := after (.moveEnd .motion 1 [21, 0]) (running steps .active .moving none)
    t.channel.slot = .posted ∧ t.channel.acceptTimer = some 200000 ∧ t.channel.stepTimer = some 20000 ∧ t.channel.stopTimer = none
    ∧ t.channel.orderIdCounter = 23 ∧ t.channel.order.map (·.orderId) = some 22 ∧ (t.sensor .a1).indexWatch = .negative := by
  decide +kernel

/-- The parts and the step timer of the order that a step asks at homing_speed 5. -/
def askedAt5 (b : StepBody) : Option OrderParts × Option Nat :=
  let s := calibrated (running [⟨.always, .moveBy 500 8 0⟩, ⟨.always, b⟩] .active .moving none) .a1 fun c => { c with homingSpeed := 5 }
  let t := after (.moveEnd .motion 1 [21, 0]) s
  (t.channel.order.map fun o => ⟨o.kind, o.direction, o.speed, o.distance, o.loadDelay⟩, t.channel.stepTimer)

/-- A class is rounded down and raised to 1; a MOVE_BY takes the sign and the magnitude of its distance; a time of 0 is move_timeout (R87). -/
theorem test_order_parts :
    askedAt5 (.seekSwitch .negative 1 700 0) = (some ⟨.jog, some .negative, some 1, some 700, none⟩, some 10000000)
    ∧ askedAt5 (.moveBy (-300) 8 60000) = (some ⟨.moveBy, some .negative, some 5, some 300, none⟩, some 60000000)
    ∧ askedAt5 (.moveBy 300 7 1) = (some ⟨.moveBy, some .positive, some 4, some 300, none⟩, some 1000)
    ∧ askedAt5 .loadCheck = (some ⟨.hold, none, none, none, some 200⟩, some 10000000) := by decide +kernel

/-- The flag L0 of axis 1 after a CAPTURE with its switch ACTIVE, its load LOADED and a latch. -/
def captured (k : CaptureCond) : Option Bool :=
  let s := running [⟨.always, .moveBy 500 8 0⟩, ⟨.always, .capture .l0 k⟩, settle100] .active .moving (some 5)
  let s := recorded (s.setSensor .a1 { s.sensor .a1 with switchLevel := .active }) .a1 fun r => { r with loadClass := .loaded }
  ((after (.moveEnd .motion 1 [21, 0]) s).run .a1).map (·.l0)

/-- The capture conditions (R93). -/
theorem test_capture_conditions :
    captured .switchActive = some true ∧ captured .loadLoaded = some true ∧ captured .loadEmpty = some false
    ∧ captured .indexLatched = some true ∧ captured .coarseAboveHome = some false := by decide +kernel

/-- What a VERIFY_COARSE with a coarse sensor leaves of run 7: axis 1 stands at the joint value 196708, T is 10. -/
def verified (marked : Bool) (average : Option Nat) (source : Option Axis) (coarse : Int) : Option (Nat × RunResult) :=
  let s := running [⟨.always, .moveBy 500 8 0⟩, ⟨.always, .verifyCoarse⟩, settle100] .active .moving none
  let s := calibrated s .a1 fun c =>
    { c with scale := 2 ^ 24, refCount := 0, homePosition := 0, couplingSource := source, coarsePresent := true, coarseRef := 0
             coarseHome := coarse, coarseGain := 0, coarseTolerance := 10 }
  let s := (s.setSensor .a1 { s.sensor .a1 with coarseAverage := average }).setRun .a1 (some { run7 .moving with marked := marked })
  (after (.moveEnd .motion 1 [21, 0]) s).lastRuns.get .a1

/-- VERIFY_COARSE passes at T and ends the run beyond it, without a mark, a framed source or an average (R95). -/
theorem test_verify_coarse :
    verified true (some 0) none 196718 = none ∧ verified true (some 0) none 196719 = some (7, .coarseMismatch)
    ∧ verified false (some 0) none 196718 = some (7, .notMarked)
    ∧ verified true (some 0) (some .a2) 196718 = some (7, .coarseMismatch)
    ∧ verified true none none 196718 = some (7, .coarseMismatch) := by decide +kernel

/-- A settle expiry and a switch sample let the run go on too: the first sample (log 10), and one that makes a candidate 5 ms old the
level. -/
theorem test_steps_go_on_elsewhere :
    let steps : List Step := [⟨.always, .seekSwitch .negative 8 1000 0⟩, settle100]
    let s := (running steps .blocked .waitChannel none).setChannel { (ordered .blocked .waitChannel).channel with queue := [.a1] }
    let aged := (calibrated s .a1 fun c => { c with switchFilter := 5 }).setSensor .a1
      { s.sensor .a1 with switchSampled := true, switchCandidate := some (.active, 0) }
    ((after (.homeSwitchSample .a1 true) s).run .a1).map (fun r => (r.position, r.phase)) = some (1, .settling)
    ∧ (aged.calOf .a1).switchFilter * 1000 ≤ aged.now - 0
    ∧ ((after (.homeSwitchSample .a1 true) aged).run .a1).map (fun r => (r.position, r.phase)) = some (1, .settling)
    ∧ (let u := recorded ((running steps .blocked .settling none).setSettle .a1 (some 0)) .a1 fun r => { r with atRest := true }
       ((after (.settleTimerExpiry .a1) u).run .a1).map (fun r => (r.position, r.phase)) = some (1, .settling)) := by decide +kernel

/-- A run leaves the middle of the queue and joins its tail with the step behind (R89, R119). -/
theorem test_switch_leaves_the_middle :
    let steps : List Step := [⟨.always, .seekSwitch .negative 8 1000 0⟩, ⟨.always, .moveBy 500 8 0⟩]
    let s := running steps .blocked .waitChannel none
    let s := s.setChannel { s.channel with queue := [.a2, .a1, .a3] }
    (after (.homeSwitchSample .a1 true) s).channel.queue = [.a2, .a3, .a1]
    ∧ ((after (.homeSwitchSample .a1 true) s).run .a1).map (fun r => (r.position, r.phase)) = some (1, .waitChannel) := by decide +kernel

/-- The states of MOVE_END and STOP_TIMER_EXPIRY hold order 21 of axis 1. -/
theorem test_move_end_premises :
    (ordered .posted .ordered).channel.order = some order21 ∧ (stopping .ending none false).channel.order = some order21
    ∧ (stopping .ending none true).channel.queue = [] ∧ order21.orderId = (21 : Byte).toNat := by decide +kernel

/-- CHANNEL_RESET of a blocked slot, alone and with a run waiting; of a slot that is not blocked; from the Cell Port (R126). -/
theorem test_channel_reset :
    let s := (ordered .blocked .waitChannel).setChannel { (ordered .blocked .waitChannel).channel with detached := true, queue := [.a1] }
    (s.stepOf (run7 .waitChannel)).isSome = true
    ∧ (orderParts (s.calOf .a1) (.seekSwitch .negative 8 1000 0)).isSome = true
    ∧ (after (.channelReset .motion 1 []) (ordered .blocked .moving)).channel.slot = .empty
    ∧ (after (.channelReset .motion 1 []) s).channel.slot = .posted
    ∧ (after (.channelReset .motion 1 []) s).channel.order.map (·.orderId) = some 22
    ∧ heldOf (after (.channelReset .motion 1 []) base) .motion = some (1, .wrongState, [])
    ∧ heldOf (after (.channelReset .cell 1 []) (ordered .blocked .moving)) .cell = some (1, .notPermitted, []) := by decide +kernel

/-! ### Calibration -/

/-- An editor on axis 2. -/
def edited (c : Claimant) : State := base.setCal { base.cal with axisEditor := base.cal.axisEditor.set .a2 (some c) }

/-- SET_CAL of R (row 4) of axis 2: in range, beyond it, under another editor, without the authority. -/
theorem test_set_cal :
    axisFieldOfRow 4 = some .refCount ∧ AxisField.inRange .refCount 4095 = true ∧ axisFieldOfRow 30 = none
    ∧ ((after (.setCal .cell 1 [2, 4, 0, 0, 15, 255]) base).cal.staging.axes.get .a2).refCount = 4095
    ∧ (after (.setCal .cell 1 [2, 4, 0, 0, 15, 255]) base).cal.axisEditor.get .a2 = some .cell
    ∧ heldOf (after (.setCal .cell 1 [2, 30, 0, 0, 0, 0]) base) .cell = some (1, .range, [])
    ∧ heldOf (after (.setCal .cell 1 [2, 4, 0, 0, 15, 255]) (edited .motion)) .cell = some (1, .busy, [])
    ∧ heldOf (after (.setCal .motion 1 [2, 4, 0, 0, 15, 255]) base) .motion = some (1, .denied, [])
    ∧ heldOf (after (.setCal .motion 1 [0, 1, 0, 0, 0, 9]) base) .motion = some (1, .denied, []) := by decide +kernel

/-- SET_CAL and DISCARD_CAL of the device from the Cell Port (R52, R54). -/
theorem test_device_edit :
    let s := after (.setCal .cell 1 [0, 1, 0, 0, 2, 88]) base
    deviceFieldOfRow 1 ≠ none ∧ s.cal.deviceEditor = some .cell ∧ s.cal.staging.device ≠ base.cal.staging.device
    ∧ (after (.discardCal .cell 2 [0, 1]) s).cal.staging.device = base.cal.active.device
    ∧ (after (.discardCal .cell 2 [0, 1]) s).cal.deviceEditor = none
    ∧ heldOf (after (.setCal .cell 1 [0, 9, 0, 0, 0, 9]) base) .cell = some (1, .range, []) := by decide +kernel

/-- DISCARD_CAL of an axis edited copies its active fields back. -/
theorem test_discard_cal :
    let s := after (.setCal .cell 1 [2, 4, 0, 0, 15, 255]) base
    s.cal.axisEditor.get .a2 = some .cell
    ∧ (after (.discardCal .cell 2 [2, 0]) s).cal.staging.axes.get .a2 = base.cal.active.axes.get .a2
    ∧ (after (.discardCal .cell 2 [2, 0]) s).cal.axisEditor.get .a2 = none := by decide +kernel

/-- COMMIT_CAL in STARTUP, under PFW, of no edit, of a HOMING axis whose frame it would define anew, and of a set that fails R56. -/
theorem test_commit_cal_refused :
    heldOf (after (.commitCal .cell 1 []) starting) .cell = some (1, .notReady, [])
    ∧ heldOf (after (.commitCal .cell 1 []) (base.setCont { base.cont with pfw := true })) .cell = some (1, .notReady, [])
    ∧ ((base.cal.editsOf .cell).nonempty = false ∧ base.cal.editsDevice .cell = false)
    ∧ (let s := recorded (after (.setCal .cell 1 [2, 4, 0, 0, 0, 5]) base) .a2 fun r => { r with state := .homing }
       s.commitDenied .cell = false ∧ heldOf (after (.commitCal .cell 1 []) s) .cell = some (1, .wrongState, []))
    ∧ (let s := after (.setCal .cell 1 [2, 4, 0, 0xFF, 0xFF, 0xFF]) base
       s.commitBlocked .cell = false ∧ ((s.cal.resulting .cell).validate s.recipeLength).isSome = true) := by decide +kernel

/-- The premises of a commit that passes: an edit of a window. -/
theorem test_commit_cal_premises :
    let s := after (.setCal .cell 1 [2, 14, 0, 0, 0, 64]) ready
    (s.cal.editsOf .cell).nonempty = true ∧ s.commitDenied .cell = false ∧ s.commitBlocked .cell = false
    ∧ (s.cal.resulting .cell).validate s.recipeLength = none ∧ s.cont.pfw = false ∧ s.cont.phase ≠ .startup := by decide +kernel

/-- Axis 5, coupled to axis 4, overflows, and its ARITH_OVERFLOW was cleared. Both are PROVISIONAL, and the home position of axis 4 is edited. -/
def overflowing : State :=
  let s := calibrated ready .a5 fun c => { c with couplingSource := some .a4, homePosition := 2147483647 }
  let s := recorded s .a4 fun r => { r with state := .provisional }
  after (.setCal .cell 1 [4, 6, 0, 0, 0, 5]) (recorded s .a5 fun r => { r with state := .provisional, turn := 1 })

/-- A commit that replaces the frame of a PROVISIONAL source evaluates its dependent: the flag is set again, its state and epoch kept (R58). -/
theorem test_commit_evaluates_dependents :
    let k := overflowing.cal
    let t := State.applyCommit k.active (k.resulting .cell) (overflowing.setCal (k.takeEdits .cell)) .a4
    ((overflowing.record .a5).sticky.arithOverflow = false ∧ (overflowing.cal.resulting .cell).validate overflowing.recipeLength = none)
    ∧ (t.record .a4).frame = (.provisional, .none, .recoveryFailed, 2)
    ∧ (t.record .a5).frame = (.provisional, .none, .recoveryFailed, 1)
    ∧ (t.record .a5).position = none ∧ (t.record .a5).sticky.arithOverflow = true := by decide +kernel

/-- The dependent overflows there. -/
theorem test_overflowing : overflowing.overflows .a5 := by
  refine ⟨by decide +kernel, fun b h => ?_, by decide +kernel⟩
  have hb : some Axis.a4 = some b := (show (overflowing.calOf .a5).couplingSource = some .a4 by decide +kernel) ▸ h
  cases hb
  decide +kernel

/-- CAPTURE_ZERO: H + J − P with H 0, J 1000 and P 140. -/
theorem test_capture_zero :
    ((framed .referenced 7).record .a3).position = some 140
    ∧ heldOf (after (.captureZero .cell 1 [3, 0, 0, 3, 232]) (framed .referenced 7)) .cell = some (1, .done, [0, 0, 3, 92])
    ∧ ((after (.captureZero .cell 1 [3, 0, 0, 3, 232]) (framed .referenced 7)).cal.staging.axes.get .a3).homePosition = 860 := by
  decide +kernel

/-- The elbow's two points: codes 1000 and 3000, joints −300000 and 1458301, gain 57616007 (chapter 3). -/
def pointed (code : Nat) : State :=
  let s := recorded (framed .referenced 7) .a3 fun r => { r with position := some 1458301 }
  let s := s.setSensor .a3 { s.sensor .a3 with coarseAverage := some 3000 }
  s.setCal { s.cal with points := s.cal.points.set .a3 ⟨some { code := code, joint := -300000 }, none⟩ }

/-- CAPTURE_COARSE of the second point writes the gain that both points give, and is RANGE where their codes are equal. -/
theorem test_capture_coarse_second :
    roundQuot ((1458301 - -300000) * 2 ^ 16) (3000 - 1000) = 57616007 ∧ inSignedRange 57616007 = true
    ∧ ((after (.captureCoarse .cell 1 [3, 2]) (pointed 1000)).cal.staging.axes.get .a3).coarseGain = 57616007
    ∧ ((after (.captureCoarse .cell 1 [3, 2]) (pointed 1000)).cal.staging.axes.get .a3).coarseRef = 1000
    ∧ heldOf (after (.captureCoarse .cell 1 [3, 2]) (pointed 3000)) .cell = some (1, .range, []) := by decide +kernel

/-- CAPTURE_COARSE of the first point records it. -/
theorem test_capture_coarse_first :
    ((pointed 1000).cal.points.get .a3).point2 = none
    ∧ ((after (.captureCoarse .cell 1 [3, 1]) (pointed 1000)).cal.points.get .a3).point1 = some { code := 3000, joint := 1458301 } := by
  decide +kernel

/-! ### Recipes -/

/-- SET_STEP of a MARK: over a step, behind the last, beyond it; of no step record. -/
theorem test_set_step :
    validStep [0, 7, 0, 0, 0, 0, 0, 0, 0, 0] = some ⟨.always, .mark⟩ ∧ validStep [0, 9, 0, 0, 0, 0, 0, 0, 0, 0] = none
    ∧ (after (.setStep .cell 1 [15, 0, 0, 7, 0, 0, 0, 0, 0, 0, 0, 0]) ready).recipes.staging.getD 15 [] =
        [⟨.always, .mark⟩, ⟨.always, .mark⟩]
    ∧ ((after (.setStep .cell 1 [15, 2, 0, 7, 0, 0, 0, 0, 0, 0, 0, 0]) ready).recipes.staging.getD 15 []).length = 3
    ∧ heldOf (after (.setStep .cell 1 [15, 3, 0, 7, 0, 0, 0, 0, 0, 0, 0, 0]) ready) .cell = some (1, .range, [])
    ∧ heldOf (after (.setStep .cell 1 [15, 0, 0, 9, 0, 0, 0, 0, 0, 0, 0, 0]) ready) .cell = some (1, .range, [])
    ∧ (after (.clearRecipe .cell 1 [15]) ready).recipes.staging.getD 15 [] = [] := by decide +kernel

/-- COMMIT_RECIPES in STARTUP, while a run exists, and of recipes that pass. -/
theorem test_commit_recipes :
    heldOf (after (.commitRecipes .cell 1 []) starting) .cell = some (1, .notReady, [])
    ∧ heldOf (after (.commitRecipes .cell 1 []) waiting) .cell = some (1, .busy, [])
    ∧ recipesFailure base.recipes.staging 0 = none
    ∧ heldOf (after (.commitRecipes .cell 1 []) base) .cell = some (1, .done, [0, 0]) := by decide +kernel

/-- A recipe of a MARK alone fails the validation of R98. -/
theorem test_commit_recipes_range :
    let s := base.setRecipes { base.recipes with staging := base.recipes.staging.set 2 [⟨.always, .mark⟩] }
    (recipesFailure s.recipes.staging 0).isSome = true
    ∧ (heldOf (after (.commitRecipes .cell 1 []) s) .cell).map (fun x => x.2.1) = some .range := by decide +kernel

/-! ### Snapshots -/

/-- CHECKPOINT with no newest slot targets A with sequence 1, with slot A newest B and the next sequence; and its refusals. -/
theorem test_checkpoint :
    heldOf (after (.checkpoint .cell 1 []) base) .cell = some (1, .accepted, [1, 0, 0, 0, 1])
    ∧ heldOf (after (.checkpoint .motion 1 []) (base.setCont { base.cont with
        newest := some .a, slotA := { resetDirEntry with sequence := 41 } })) .motion = some (1, .accepted, [2, 0, 0, 0, 42])
    ∧ heldOf (after (.checkpoint .safety 1 []) base) .safety = some (1, .notPermitted, [])
    ∧ heldOf (after (.checkpoint .cell 1 []) recovering) .cell = some (1, .notReady, [])
    ∧ heldOf (after (.checkpoint .cell 1 []) committing) .cell = some (1, .busy, []) := by decide +kernel

/-- DISCARD_SNAPSHOTS and its refusals. -/
theorem test_discard_snapshots :
    (after (.discardSnapshots .cell 1 []) base).cont.waitingSlotWrites = [.a, .b]
    ∧ heldOf (after (.discardSnapshots .motion 1 []) base) .motion = some (1, .notPermitted, [])
    ∧ heldOf (after (.discardSnapshots .cell 1 []) starting) .cell = some (1, .notReady, [])
    ∧ heldOf (after (.discardSnapshots .cell 1 []) committing) .cell = some (1, .busy, []) := by decide +kernel

/-- Axis 3 at turn 40 and fine 5000 with that count in the newest slot, its window 32 counts. -/
def snapped : State :=
  let s := calibrated (tracked 0 .tracking) .a3 fun c => { c with emptyWindow := 32, loadedWindow := 32, movingExtra := 0 }
  let d := { resetDirEntry with state := .committed, entries := PerAxis.const (s.record .a3).entry }
  s.setCont { s.cont with slotA := d, newest := some .a }

/-- 32 counts stay within the window and 33 leave it; a change of frame sets the mark too (R152, R153). -/
theorem test_outdating :
    let moved := after (.readEvent .a3 4750 (frameOf 17 5033)) snapped
    (after (.readEvent .a3 4750 (frameOf 17 5032)) snapped).cont.slotA.marks.get .a3 = false
    ∧ moved.cont.slotA.marks.get .a3 = true ∧ moved.cont.waitingMarks = [(.a, .a3)]
    ∧ (moved.record .a3).movingSinceCapture = true
    ∧ (after (.invalidate .safety 1 [3]) snapped).cont.slotA.marks.get .a3 = true := by decide +kernel

/-- A parked arm whose axis 3 has slipped: the outdating event has the park test start a capture. -/
def slippedAtPark : State :=
  let s := snapped.setCal { snapped.cal with fingerprint := 0 }
  after (.readEvent .a3 4750 (frameOf 17 5033)) (s.setCont { s.cont with park := .ready })

/-- The event that has the park test start a capture marks the newest slot and is not pending against the capture; it is noted for what
else arrives in its µs (R147, R148, R153). -/
theorem test_park_capture_of_an_outdated_axis :
    slippedAtPark.cont.slotA.marks.get .a3 = true ∧ slippedAtPark.cont.capture.map (fun c => c.buffer.reason) = some .park
    ∧ slippedAtPark.cont.pendingMarks.get .a3 = false ∧ slippedAtPark.outdatedNow.get .a3 = true := by decide +kernel

/-- The park test at the commit of a capture finds nothing differing, and starts no other, where no event is pending (R147). -/
theorem test_one_park_capture :
    let b := base.setCal { base.cal with fingerprint := 0 }
    let s := fun (m : AxisSet) => ({ b with link := committing.link }).setCont { b.cont with
      park := .ready, pendingMarks := m, capture := some { target := .b, written := 128, buffer := b.freeze .park } }
    (after .retentionByteWritten (s (PerAxis.const false))).cont.capture = none
    ∧ (after .retentionByteWritten (s ((PerAxis.const false).set .a2 true))).cont.capture.map (fun c => c.buffer.reason) =
        some .park := by decide +kernel

/-- A CHECKPOINT of the same µs holds an outdating event pending, one of the next µs does not (R148). -/
theorem test_checkpoint_together_with_an_outdating :
    let s := { base with outdatedNow := (PerAxis.const false).set .a3 true }
    (after (.checkpoint .cell 1 []) s).cont.pendingMarks.get .a3 = true
    ∧ (after (.checkpoint .cell 1 []) s.tick).cont.pendingMarks.get .a3 = false := by decide +kernel

/-- The mark goes over the link, a byte 01 at axis 3's place behind slot A, and then leaves the queue (R143). -/
theorem test_mark_is_written :
    let moved := after (.readEvent .a3 4750 (frameOf 17 5033)) snapped
    moved.link = some { owner := .mark .a .a3, addr := 2479, value := 1 } ∧ slotBase .a + 121 + axisNumber .a3 = 2479
    ∧ (after .retentionByteWritten moved).cont.waitingMarks = [] ∧ (after .retentionByteWritten moved).byteAt 2479 = 1
    ∧ (after .retentionByteWritten moved).link = none := by decide +kernel

/-- A capture into slot A of which `n` bytes are written and one more is on the link. -/
def writing (n : Nat) : State :=
  { base with
    cont := { base.cont with capture := some { target := .a, written := n, buffer := base.freeze .checkpoint } }
    link := some { owner := .capture, addr := 0, value := 0 } }

/-- The byte on the link once another byte is written: address and value. -/
def nextByte (s : State) : Option (Nat × Byte) := (after .retentionByteWritten s).link.map fun x => (x.addr.val, x.value)

/-- A capture writes the header, the entries, the marks behind the CRC-32, the CRC-32 and the slot state again (R149, R196). -/
theorem test_capture_bytes :
    nextByte (writing 0) = some (2356, 0) ∧ nextByte (writing 4) = some (2360, 1) ∧ nextByte (writing 9) = some (2365, 1)
    ∧ nextByte (writing 117) = some (2477, 0) ∧ nextByte (writing 122) = some (2482, 0)
    ∧ (nextByte (writing 123)).map (·.1) = some 2473 ∧ nextByte (writing 127) = some (2355, 0xA5)
    ∧ (after (.checkpoint .cell 1 []) base).link = some { owner := .capture, addr := 2355, value := 0x5A } := by decide +kernel

/-- A region write that waited begins with its version, one whose byte was written goes on with the next, one that was paused stands; the
recipe write gives way to the calibration write (R63, R99, R143). -/
theorem test_region_bytes :
    let s := { base with link := some { owner := .calibration, addr := 0, value := 0 } }
    let cal := fun (w : RegionWrite) => s.setCal { s.cal with write := w }
    let both := (cal (.inProgress [1, 7, 8] 1)).setRecipes { s.recipes with write := .inProgress [1, 5, 6] 1 }
    nextByte (cal (.waiting [1, 7])) = some (0, 1) ∧ nextByte (cal (.inProgress [1, 7, 8] 0)) = some (1, 7)
    ∧ nextByte both = some (2, 8) ∧ nextByte (after .retentionByteWritten (after .retentionByteWritten both)) = some (416, 6)
    ∧ nextByte (cal (.inProgress [1, 7] 1)) = none := by decide +kernel

/-- The calibration image holds 409 bytes and the recipe image 1936; a step record reads as R196 lays it out. -/
theorem test_layouts :
    (defaultCalSet.layout.length = 409 ∧ defaultCalSet.layout.getD 1 0 = 16 ∧ defaultCalSet.layout.drop 402 = [1, 244, 5, 0, 200, 1, 244])
    ∧ (recipesLayout (List.replicate 16 seekAndMark)).length = 1936
    ∧ (recipesLayout [seekAndMark]).take 22 = [2, 0, 0, 1, 8, 0, 0, 3, 232, 0, 0, 0, 7, 0, 0, 0, 0, 0, 0, 0, 0, 0]
    ∧ (base.freeze .checkpoint).layout.length = 117 := by decide +kernel

/-! ### Joint arithmetic -/

/-- The bend of the worked conversion stands at 231515, and halves round to the even number. -/
theorem test_joint_values :
    wrist.jointExact .a5 (wrist.count .a5) = 231515 ∧ roundHalfEven 3 2 = 2 ∧ roundHalfEven 5 2 = 2
    ∧ roundHalfEven (-3) 2 = -2 ∧ roundHalfEven (-5) 2 = -2 := by decide +kernel

end Sys2Proof.Tests
end

section
/-! PROOF. The Load Monitor's and the park timer's expiries (R92, R109, R131, R133, R135, R147 to R149), and the requests of the Recipe Store
(R97 to R99, R196). -/

namespace Sys2Proof.Proofs.HomingRecipes

open Sys2Proof Sys2Proof.Machine

/-! ### The meaning of each command -/

section
variable (s : State) (p : Port) (tag : Byte) (payload : List Byte) (a : Axis)

theorem exec_setStep : exec (.setStep p tag payload) s = execSetStep p tag payload s := rfl
theorem exec_clearRecipe : exec (.clearRecipe p tag payload) s = execClearRecipe p tag payload s := rfl
theorem exec_commitRecipes : exec (.commitRecipes p tag payload) s = execCommitRecipes p tag payload s := rfl
theorem exec_classificationTimerExpiry : exec (.classificationTimerExpiry a) s = execClassificationTimerExpiry a s := rfl
theorem exec_loadSampleTimerExpiry : exec (.loadSampleTimerExpiry a) s = execLoadSampleTimerExpiry a s := rfl
theorem exec_rampIgnoreExpiry : exec (.rampIgnoreExpiry a) s = execRampIgnoreExpiry a s := rfl
theorem exec_stepTimerExpiry : exec .stepTimerExpiry s = execStepTimerExpiry s := rfl
theorem exec_parkTimerExpiry : exec .parkTimerExpiry s = execParkTimerExpiry s := rfl

end

/-! ### A command that the part takes -/

/-- A part that acts takes the command (R156). -/
theorem whenActing_of_acting {f : State → State} {s : State} (acts : s.acting = true) : whenActing f s = .next (f s) := by
  rw [whenActing, if_pos acts]

/-- The state on which a command's effects begin: nothing of it is gathered yet (R189). -/
def begun (s : State) : State := { s with outbox := [], parkTestDue := false, outdatedHere := PerAxis.const false }

/-- A command with an effect on the blocks begins with nothing gathered and ends as every command does. -/
theorem event_eq (f : State → State) (s : State) : s.event f = (f (begun s)).finish := rfl

@[simp] theorem begun_records (s : State) : (begun s).records = s.records := rfl
@[simp] theorem begun_record (s : State) (a : Axis) : (begun s).record a = s.record a := rfl
@[simp] theorem begun_load (s : State) (a : Axis) : (begun s).load a = s.load a := rfl
@[simp] theorem begun_runs (s : State) : (begun s).runs = s.runs := rfl
@[simp] theorem begun_run (s : State) (a : Axis) : (begun s).run a = s.run a := rfl
@[simp] theorem begun_channel (s : State) : (begun s).channel = s.channel := rfl
@[simp] theorem begun_cal (s : State) : (begun s).cal = s.cal := rfl
@[simp] theorem begun_calOf (s : State) (a : Axis) : (begun s).calOf a = s.calOf a := rfl
@[simp] theorem begun_recipes (s : State) : (begun s).recipes = s.recipes := rfl

/-- The response that a command formed is held when the command has ended (R176). -/
theorem answer_finish_answered (s : State) (p : Port) (tag : Byte) (code : ResultCode) (payload : List Byte) :
    (s.answer p tag code payload).finish.answered p tag code payload := by
  rw [State.answered, State.finish_held, State.answer_eq, State.port_setPort_self]

/-- The check for another port passes the Cell Port (R97, R98, check 1). -/
theorem cell_is_cell : ¬ Port.cell ≠ Port.cell := fun other => other rfl

/-! ### The staging recipes (R97) -/

/-- SET_STEP from the Cell Port makes the checks of R97 and writes the step. -/
theorem exec_setStep_cell {s : State} {tag i pos : Byte} {record : List Byte} (acts : s.acting = true) (whole : record.length = 10) :
    exec (.setStep .cell tag (i :: pos :: record)) s = .next (s.setStep .cell tag i.toNat pos.toNat record) := by
  have form : formSetStep (i :: pos :: record) = some (i.toNat, pos.toNat, record) := if_pos whole
  rw [exec_setStep, execSetStep, whenActing_of_acting acts, if_neg cell_is_cell, form]

/-- CLEAR_RECIPE from the Cell Port outside STARTUP empties the staging recipe named (R97). -/
theorem exec_clearRecipe_cell {s : State} {tag i : Byte} (acts : s.acting = true) (started : s.cont.phase ≠ .startup) (le : i.toNat ≤ 15) :
    exec (.clearRecipe .cell tag [i]) s =
      .next ((s.setRecipes (s.recipes.setStaging i.toNat [])).answer .cell tag .done []) := by
  have form : formRecipe [i] = some i.toNat := rfl
  rw [exec_clearRecipe, execClearRecipe, whenActing_of_acting acts, if_neg cell_is_cell, form]
  simp only [if_neg started, if_neg (Nat.not_lt.mpr le)]

section
variable {s : State} {p : Port} {tag : Byte} {i pos : Nat} {record : List Byte} {st : Step}

/-- A position beyond the length of the recipe is out of range (R97, check 4). -/
theorem setStep_beyond (started : s.cont.phase ≠ .startup) (beyond : (s.recipes.staging.getD i []).length < pos) :
    s.setStep p tag i pos record = s.answer p tag .range [] := by
  rw [State.setStep, if_neg started, if_pos (.inr (.inr beyond))]

/-- A record that is no step is out of range, whatever the position (R97, check 4). -/
theorem setStep_invalid (started : s.cont.phase ≠ .startup) (bad : validStep record = none) :
    s.setStep p tag i pos record = s.answer p tag .range [] := by
  rw [State.setStep, if_neg started, bad]
  split <;> rfl

/-- A step within the checks is written into the staging recipe, whose new length is the response's payload (R97). -/
theorem setStep_valid (started : s.cont.phase ≠ .startup) (recipe : i ≤ 15) (place : pos ≤ 11)
    (within : pos ≤ (s.recipes.staging.getD i []).length) (valid : validStep record = some st) :
    s.setStep p tag i pos record =
      (s.setRecipes (s.recipes.setStaging i (writeStep (s.recipes.staging.getD i []) pos st))).answer p tag .done
        [byte (writeStep (s.recipes.staging.getD i []) pos st).length] := by
  have inRange : ¬ (15 < i ∨ 11 < pos ∨ (s.recipes.staging.getD i []).length < pos) := by omega
  rw [State.setStep, if_neg started, if_neg inRange, valid]

end

/-- Below the length a step is replaced (R97). -/
theorem writeStep_below {steps : List Step} {pos : Nat} (st : Step) (below : pos < steps.length) :
    writeStep steps pos st = steps.set pos st := if_pos below

/-- At the length a step is appended (R97). -/
theorem writeStep_at (steps : List Step) (st : Step) : writeStep steps steps.length st = steps ++ [st] := if_neg (Nat.lt_irrefl _)

/-! ### A commit of the recipes (R98, R99) -/

/-- A run exists where some axis has one (R98, check 3). -/
theorem anyRun_iff (s : State) : s.anyRun = true ↔ ∃ a, s.run a ≠ none := by
  constructor
  · intro h
    obtain ⟨a, -, ha⟩ := List.any_eq_true.mp h
    exact ⟨a, Option.isSome_iff_ne_none.mp ha⟩
  · rintro ⟨a, ha⟩
    exact List.any_eq_true.mpr ⟨a, by cases a <;> decide, Option.isSome_iff_ne_none.mpr ha⟩

/-- A commit of the recipes queues a write of the region with the staging recipes (R99). -/
theorem commitRecipes_recipes (s : State) : s.commitRecipes.recipes =
    { s.recipes with active := s.recipes.staging, validity := .valid, write := .waiting (recipesRegion s.recipes.staging) } := rfl

@[simp] theorem commitRecipes_records (s : State) : s.commitRecipes.records = s.records := rfl
@[simp] theorem commitRecipes_cal (s : State) : s.commitRecipes.cal = s.cal := rfl

/-- The arbiter leaves a recipe write that waits queued: it waits on, or its first byte is on the link (R99, R143). -/
theorem serve_queuedWrite {s : State} {region : List Byte} (waits : s.recipes.write = .waiting region) :
    s.serve.queuedWrite s.serve.recipes.write .recipe recipeBase region := by
  unfold State.serve
  split
  · exact .inl waits
  split
  · exact .inl waits
  split
  · refine .inl ?_
    unfold State.serveCapture
    dsimp only
    split <;> exact waits
  split
  · exact .inl waits
  unfold State.serveRegions
  split
  · exact .inl waits
  · rw [waits]
    exact .inr ⟨rfl, rfl⟩

/-- The end of a command that calls for no park test leaves a recipe write that waits queued (R99, R143). -/
theorem finish_queuedWrite {s : State} {region : List Byte} (noTest : s.parkTestDue = false) (waits : s.recipes.write = .waiting region) :
    s.finish.queuedWrite s.finish.recipes.write .recipe recipeBase region := by
  have stands : s.parkTest = s := by simp [State.parkTest, noTest]
  rw [State.finish, stands]
  exact serve_queuedWrite waits

/-- COMMIT_RECIPES from the Cell Port is not ready in STARTUP and while PFW is asserted (R98, check 2). -/
theorem exec_commitRecipes_notReady {s : State} {tag : Byte} (acts : s.acting = true) (held : s.cont.phase = .startup ∨ s.cont.pfw = true) :
    exec (.commitRecipes .cell tag []) s = .next (s.answer .cell tag .notReady []) := by
  rw [exec_commitRecipes, execCommitRecipes, whenActing_of_acting acts, if_neg cell_is_cell]
  exact congrArg Host.Outcome.next (if_pos held)

section
variable {s : State} {tag : Byte} (acts : s.acting = true) (started : s.cont.phase ≠ .startup) (powered : s.cont.pfw = false)
include acts started powered

/-- Where the part is ready, COMMIT_RECIPES from the Cell Port goes by the runs and then by the validation (R98, R99). -/
theorem exec_commitRecipes_ready : exec (.commitRecipes .cell tag []) s = .next (
    if s.anyRun then s.answer .cell tag .busy []
    else match recipesFailure s.recipes.staging 0 with
      | some (i, pos, check) => s.answer .cell tag .range [byte i, byte pos, byte check]
      | none => s.event fun t =>
          t.commitRecipes.answer .cell tag .done (be 2 (changedRecipes t.recipes.active t.recipes.staging))) := by
  have ready : ¬ (s.cont.phase = .startup ∨ s.cont.pfw = true) := by simp [started, powered]
  rw [exec_commitRecipes, execCommitRecipes, whenActing_of_acting acts, if_neg cell_is_cell]
  exact congrArg Host.Outcome.next (if_neg ready)

theorem exec_commitRecipes_busy {a : Axis} (runs : s.run a ≠ none) :
    exec (.commitRecipes .cell tag []) s = .next (s.answer .cell tag .busy []) := by
  rw [exec_commitRecipes_ready acts started powered, if_pos ((anyRun_iff s).mpr ⟨a, runs⟩)]

theorem exec_commitRecipes_range {i pos check : Nat} (free : ∀ a, s.run a = none)
    (fails : recipesFailure s.recipes.staging 0 = some (i, pos, check)) :
    exec (.commitRecipes .cell tag []) s = .next (s.answer .cell tag .range [byte i, byte pos, byte check]) := by
  have idle : ¬ s.anyRun = true := fun h => (anyRun_iff s).mp h |>.elim fun a runs => runs (free a)
  rw [exec_commitRecipes_ready acts started powered, if_neg idle, fails]

theorem exec_commitRecipes_done (free : ∀ a, s.run a = none) (good : recipesFailure s.recipes.staging 0 = none) :
    exec (.commitRecipes .cell tag []) s = .next (((begun s).commitRecipes.answer .cell tag .done
      (be 2 (changedRecipes s.recipes.active s.recipes.staging))).finish) := by
  have idle : ¬ s.anyRun = true := fun h => (anyRun_iff s).mp h |>.elim fun a runs => runs (free a)
  rw [exec_commitRecipes_ready acts started powered, if_neg idle, good]
  rfl

end

/-- Settles O57: SET_STEP and CLEAR_RECIPE by the checks of R97 one after the other; COMMIT_RECIPES by the checks of R98, and by what the end
of the command leaves of the write that it queues. -/
theorem recipeRequestsEditAndCommitStaging : Obligations.RecipeRequestsEditAndCommitStaging := by
  refine ⟨?edits, ?commits⟩
  case edits =>
    intro s tag i pos st record acts started recipe place whole steps
    rw [exec_setStep_cell acts whole]
    refine ⟨fun beyond => ?_, fun bad => ?_, fun valid below => ?_, fun valid atEnd => ?_, exec_clearRecipe_cell acts started recipe⟩
    · rw [setStep_beyond started beyond]
    · rw [setStep_invalid started bad]
    · rw [setStep_valid started recipe place (Nat.le_of_lt below) valid, writeStep_below st below, List.length_set]
      rfl
    · rw [setStep_valid started recipe place (Nat.le_of_eq atEnd) valid, atEnd, writeStep_at, List.length_append]
      rfl
  case commits =>
    intro s tag acts
    refine ⟨exec_commitRecipes_notReady acts, fun a started powered => exec_commitRecipes_busy acts started powered,
      fun i pos check started powered => exec_commitRecipes_range acts started powered, fun started powered free good => ?_⟩
    refine ⟨_, exec_commitRecipes_done acts started powered free good, ?_⟩
    have queued := finish_queuedWrite (s := (begun s).commitRecipes.answer .cell tag .done
      (be 2 (changedRecipes s.recipes.active s.recipes.staging))) rfl rfl
    rw [← recipesRegion_eq_layout]
    refine ⟨answer_finish_answered .., ?_, ?_, ?_, queued, ?_, ?_⟩ <;> simp [commitRecipes_recipes]

/-! ### The classification of magnitudes (R129, R131, R133) -/

/-- The sum of a window is the sum of the magnitudes of its samples. -/
theorem windowSum_eq (w : List (BitVec 16)) : windowSum w = (w.map magnitude).sum := by
  rw [List.sum_eq_foldl, List.foldl_map]
  rfl

/-- The class of a single magnitude is that of the thresholds themselves (R133). -/
theorem classify_one (c : AxisCal) (m : Nat) :
    classify c 1 m = if m < c.emptyMax then .empty else if m < c.loadedMax then .loaded else .overload := by
  simp only [classify, Nat.one_mul]

/-- A class is written into the record, and AXIS_STATE is handed on where it is another (R26, R131). -/
theorem setLoadClass_eq (s : State) (a : Axis) (k : LoadClass) : s.setLoadClass a k =
    if (s.record a).loadClass = k then s.setRecord a { s.record a with loadClass := k }
    else (s.setRecord a { s.record a with loadClass := k }).emit (.axisState a) := by
  by_cases same : (s.record a).loadClass = k <;>
    simp [State.setLoadClass, State.commitRecord, freshCount, reportable, ackNeeded, frameChanged, same]

@[simp] theorem setLoad_record (s : State) (a b : Axis) (x : LoadState) : (s.setLoad a x).record b = s.record b := rfl

@[simp] theorem setLoadClass_record (s : State) (a : Axis) (k : LoadClass) :
    (s.setLoadClass a k).record a = { s.record a with loadClass := k } := by
  rw [setLoadClass_eq]
  split <;> simp [State.record]

@[simp] theorem setLoadClass_load (s : State) (a b : Axis) (k : LoadClass) : (s.setLoadClass a k).load b = s.load b := by
  rw [setLoadClass_eq]
  split <;> rfl

@[simp] theorem setLoadClass_runs (s : State) (a : Axis) (k : LoadClass) : (s.setLoadClass a k).runs = s.runs := by
  rw [setLoadClass_eq]
  split <;> rfl

@[simp] theorem setLoadClass_channel (s : State) (a : Axis) (k : LoadClass) : (s.setLoadClass a k).channel = s.channel := by
  rw [setLoadClass_eq]
  split <;> rfl

@[simp] theorem setLoadClass_cal (s : State) (a : Axis) (k : LoadClass) : (s.setLoadClass a k).cal = s.cal := by
  rw [setLoadClass_eq]
  split <;> rfl

@[simp] theorem setLoadClass_recipes (s : State) (a : Axis) (k : LoadClass) : (s.setLoadClass a k).recipes = s.recipes := by
  rw [setLoadClass_eq]
  split <;> rfl

/-! ### CLASSIFICATION_TIMER_EXPIRY (R130, R131) -/

/-- With a full window the timer starts again and the class is that of the window's sum (R131). -/
theorem classExpiry_eq {s : State} {a : Axis} (full : (s.load a).window.length = 32) : s.classExpiry a =
    (s.setLoad a { s.load a with classTimer := some classPeriod }).setLoadClass a
      (classify (s.calOf a) 32 (windowSum (s.load a).window)) := by
  rw [State.classExpiry, State.classifyAtRest, State.load_setLoad_self]
  exact if_pos full

/-- CLASSIFICATION_TIMER_EXPIRY with a full window classifies the axis and starts its timer again (R131). -/
theorem classificationTimer_classifies {s : State} {a : Axis} (acts : s.acting = true) (timing : (s.load a).classTimer ≠ none)
    (full : (s.load a).window.length = 32) :
    ∃ t : State, exec (.classificationTimerExpiry a) s = .next t
      ∧ (t.record a).loadClass = classify (s.calOf a) 32 (windowSum (s.load a).window)
      ∧ (t.load a).classTimer = some 32000 ∧ (t.record a).frame = (s.record a).frame ∧ t.runs = s.runs := by
  refine ⟨((begun s).classExpiry a).finish, ?_, ?_⟩
  · rw [exec_classificationTimerExpiry, execClassificationTimerExpiry, whenActing_of_acting acts,
      if_pos (Option.isSome_iff_ne_none.mpr timing), event_eq]
  · rw [classExpiry_eq (s := begun s) full]
    simp [AxisRecord.frame, classPeriod]

/-! ### The event of a LOAD_CHECK sample (R92, R109, R123, R133) -/

/-- The step in hand is a LOAD_CHECK, under whatever condition (R92). -/
theorem checksLoad_iff (s : State) (r : Run) : s.checksLoad r = true ↔ ∃ cond, s.stepOf r = some ⟨cond, .loadCheck⟩ := by
  unfold State.checksLoad
  constructor
  · intro h
    split at h
    · next cond step => exact ⟨cond, step⟩
    · cases h
  · rintro ⟨cond, step⟩
    rw [step]

/-- A run that is not MOVING in a LOAD_CHECK stands (R109, R133). -/
theorem loadCheckEvent_stands {s : State} {a : Axis} {r : Run} (k : LoadClass) (runs : s.run a = some r)
    (other : ¬ (r.phase = .moving ∧ s.checksLoad r = true)) : s.loadCheckEvent a k = s := by
  unfold State.loadCheckEvent
  rw [runs]
  exact if_neg other

theorem loadCheckEvent_idle {s : State} {a : Axis} (k : LoadClass) (idle : s.run a = none) : s.loadCheckEvent a k = s := by
  unfold State.loadCheckEvent
  rw [idle]

/-- A run that is MOVING in a LOAD_CHECK is stopped: it is ENDING with OVERLOAD for that class and STOPPING for the others (R109, R133). -/
theorem loadCheckEvent_stops {s : State} {a : Axis} {r : Run} (k : LoadClass) (runs : s.run a = some r)
    (checks : r.phase = .moving ∧ s.checksLoad r = true) :
    s.loadCheckEvent a k =
      if k = .overload then s.stopRun a r .ending (some .overload) else s.stopRun a r .stopping none := by
  have live : r.live = true := by rw [Run.live, checks.1]
  have meets : s.meetStep a = s.stopRun a r .stopping none := by
    rw [State.meetStep, runs]
    exact if_pos live
  have defeats : s.defeatStep a .overload = s.stopRun a r .ending (some .overload) := by
    rw [State.defeatStep, runs]
    exact if_pos live
  unfold State.loadCheckEvent
  rw [runs]
  cases k <;> simp [checks, meets, defeats]

@[simp] theorem postStop_records (s : State) : s.postStop.records = s.records := by
  unfold State.postStop
  split <;> rfl

@[simp] theorem stopRun_record (s : State) (a b : Axis) (r : Run) (phase : RunPhase) (pending : Option RunResult) :
    (s.stopRun a r phase pending).record b = s.record b := by
  simp [State.stopRun, State.record]

/-- Posting STOP stops no load sample timer, or that of the order's axis (R123, R132): a stopped one stays stopped. -/
theorem stopRun_sampleTimer {s : State} {a b : Axis} (r : Run) (phase : RunPhase) (pending : Option RunResult)
    (stopped : (s.load b).sampleTimer = none) : ((s.stopRun a r phase pending).load b).sampleTimer = none := by
  change (s.postStop.load b).sampleTimer = none
  unfold State.postStop
  split
  · exact stopped
  · next o _ _ =>
    rw [State.orderStopped, State.load_setLoad]
    split
    · rfl
    · exact stopped
  · exact stopped

/-- Posting STOP for a live order, as the statements say it (R109, R123, R132). -/
theorem stopRun_postedStop {s : State} {a : Axis} {o : Order} (r : Run) (phase : RunPhase) (pending : Option RunResult)
    (live : s.hasLiveOrder a o) : s.postedStop (s.stopRun a r phase pending) a r o phase pending s.channel.queue := by
  obtain ⟨order, rfl, slot⟩ := live
  have posts : s.stopRun o.axis r phase pending = s.postStop.setRun o.axis (some { r with phase := phase, pendingResult := pending }) := rfl
  refine ⟨by rw [posts, State.run_setRun_self], ?_, ?_⟩
  · rw [posts, State.setRun_channel, State.postStop, order]
    obtain posted | active := slot
    · rw [posted]; rfl
    · rw [active]; rfl
  · intro active
    have load : ((s.stopRun o.axis r phase pending).load o.axis) =
        { s.load o.axis with watch := .off, ignoreTimer := none, sampleTimer := none } := by
      rw [posts]
      change s.postStop.load o.axis = _
      rw [State.postStop, order, active]
      exact State.load_setLoad_self ..
    rw [load]
    exact ⟨rfl, rfl, rfl, rfl⟩

/-- What posting STOP leaves is said of the slot, the stop timeout and the live order before it, and of the run, the channel and the load
state after it. -/
theorem postedStop_congr {s s' t t' : State} {a : Axis} {r : Run} {o : Order} {phase : RunPhase} {pending : Option RunResult}
    {queue : List Axis} (channel : s'.channel = s.channel) (cal : s'.cal = s.cal)
    (live : (s'.load a).liveOrder = (s.load a).liveOrder) (run : t'.run a = t.run a) (channel' : t'.channel = t.channel)
    (load : t'.load a = t.load a) (posted : s'.postedStop t a r o phase pending queue) : s.postedStop t' a r o phase pending queue := by
  unfold State.postedStop at posted ⊢
  rw [run, channel', load, ← live, ← channel, ← cal]
  exact posted

/-! ### LOAD_SAMPLE_TIMER_EXPIRY (R92, R133) -/

/-- The state in which a LOAD_CHECK sample reaches the run: the timer is stopped and the class is written (R133). -/
def sampled (s : State) (a : Axis) (k : LoadClass) : State :=
  (s.setLoad a { s.load a with sampleTimer := none }).setLoadClass a k

/-- The class of the most recent magnitude is written and handed to the run (R133). -/
theorem loadSampleExpiry_eq {s : State} {a : Axis} {v : BitVec 16} (latest : (s.load a).window.getLast? = some v) :
    s.loadSampleExpiry a =
      (sampled s a (classify (s.calOf a) 1 (magnitude v))).loadCheckEvent a (classify (s.calOf a) 1 (magnitude v)) := by
  have cls : s.sampleClass a = classify (s.calOf a) 1 (magnitude v) := by rw [State.sampleClass, latest]
  have nonempty : (s.load a).window.isEmpty = false := by
    cases w : (s.load a).window with
    | nil => simp [w] at latest
    | cons => rfl
  have cls' : (s.setLoad a { s.load a with sampleTimer := none }).sampleClass a = classify (s.calOf a) 1 (magnitude v) := by
    rw [State.sampleClass, State.load_setLoad_self, latest]
    rfl
  simp only [State.loadSampleExpiry, State.classifySample, State.load_setLoad_self, nonempty, cls, cls', sampled,
    Bool.false_eq_true, if_false]

section
variable (s : State) (a : Axis) (k : LoadClass)

@[simp] theorem sampled_record : (sampled s a k).record a = { s.record a with loadClass := k } := setLoadClass_record ..
@[simp] theorem sampled_runs : (sampled s a k).runs = s.runs := setLoadClass_runs ..
@[simp] theorem sampled_channel : (sampled s a k).channel = s.channel := setLoadClass_channel ..
@[simp] theorem sampled_cal : (sampled s a k).cal = s.cal := setLoadClass_cal ..
@[simp] theorem sampled_recipes : (sampled s a k).recipes = s.recipes := setLoadClass_recipes ..

@[simp] theorem sampled_load : (sampled s a k).load a = { s.load a with sampleTimer := none } := by
  rw [sampled, setLoadClass_load, State.load_setLoad_self]

@[simp] theorem sampled_run (b : Axis) : (sampled s a k).run b = s.run b := by
  rw [State.run, sampled_runs, State.run]

theorem sampled_checksLoad (r : Run) : (sampled s a k).checksLoad r = s.checksLoad r := by
  rw [State.checksLoad, State.stepOf, State.recipeOf, sampled_recipes]
  rfl

/-- The run's part of a sample changes no record of it, and leaves the sample timer stopped (R133). -/
theorem loadCheckEvent_sampled_keeps :
    ((sampled s a k).loadCheckEvent a k).record a = { s.record a with loadClass := k }
      ∧ (((sampled s a k).loadCheckEvent a k).load a).sampleTimer = none := by
  have stopped : ((sampled s a k).load a).sampleTimer = none := by rw [sampled_load]
  cases runs : (sampled s a k).run a with
  | none => rw [loadCheckEvent_idle k runs]; exact ⟨sampled_record .., stopped⟩
  | some r =>
    by_cases checks : r.phase = .moving ∧ (sampled s a k).checksLoad r = true
    · rw [loadCheckEvent_stops k runs checks]
      split <;> exact ⟨by rw [stopRun_record, sampled_record], stopRun_sampleTimer _ _ _ stopped⟩
    · rw [loadCheckEvent_stands k runs checks]
      exact ⟨sampled_record .., stopped⟩

end

/-- The state that LOAD_SAMPLE_TIMER_EXPIRY leaves for a sample of a class (R133). -/
def sampleTaken (s : State) (a : Axis) (k : LoadClass) : State := ((sampled (begun s) a k).loadCheckEvent a k).finish

theorem exec_loadSampleTimerExpiry_timing {s : State} {a : Axis} {v : BitVec 16} (acts : s.acting = true)
    (timing : (s.load a).sampleTimer ≠ none) (latest : (s.load a).window.getLast? = some v) :
    exec (.loadSampleTimerExpiry a) s = .next (sampleTaken s a (classify (s.calOf a) 1 (magnitude v))) := by
  rw [exec_loadSampleTimerExpiry, execLoadSampleTimerExpiry, whenActing_of_acting acts,
    if_pos (Option.isSome_iff_ne_none.mpr timing), event_eq, loadSampleExpiry_eq (s := begun s) latest]
  rfl

section
variable {s : State} {a : Axis}

theorem sampleTaken_record (k : LoadClass) : (sampleTaken s a k).record a = { s.record a with loadClass := k } := by
  rw [sampleTaken, State.finish_record]
  exact (loadCheckEvent_sampled_keeps (begun s) a k).1

theorem sampleTaken_sampleTimer (k : LoadClass) : ((sampleTaken s a k).load a).sampleTimer = none := by
  rw [sampleTaken, State.finish_load]
  exact (loadCheckEvent_sampled_keeps (begun s) a k).2

/-- A sample leaves a run that is not MOVING in a LOAD_CHECK, and the slot, as they were (R109, R133). -/
theorem sampleTaken_stands {r : Run} (k : LoadClass) (runs : s.run a = some r) (other : ¬ (r.phase = .moving ∧ s.checksLoad r = true)) :
    (sampleTaken s a k).runs = s.runs ∧ (sampleTaken s a k).channel = s.channel := by
  have stands : (sampled (begun s) a k).loadCheckEvent a k = sampled (begun s) a k :=
    loadCheckEvent_stands k (by rw [sampled_run]; exact runs) (by rw [sampled_checksLoad]; exact other)
  simp [sampleTaken, stands]

/-- A sample posts STOP for the run that is MOVING in a LOAD_CHECK (R109, R123, R133). -/
theorem sampleTaken_postedStop {r : Run} {o : Order} (k : LoadClass) (runs : s.run a = some r)
    (checks : r.phase = .moving ∧ s.checksLoad r = true) (live : s.hasLiveOrder a o) :
    (k = .overload → s.postedStop (sampleTaken s a k) a r o .ending (some .overload) s.channel.queue)
      ∧ (k ≠ .overload → s.postedStop (sampleTaken s a k) a r o .stopping none s.channel.queue) := by
  have stops := loadCheckEvent_stops (s := sampled (begun s) a k) (a := a) k (by rw [sampled_run]; exact runs)
    (by rw [sampled_checksLoad]; exact checks)
  have posted (phase : RunPhase) (pending : Option RunResult) :
      s.postedStop ((sampled (begun s) a k).stopRun a r phase pending).finish a r o phase pending s.channel.queue := by
    have before : (sampled (begun s) a k).hasLiveOrder a o := by
      rw [State.hasLiveOrder, sampled_channel]
      exact live
    have channel : (sampled (begun s) a k).channel = s.channel := sampled_channel ..
    have posts := stopRun_postedStop r phase pending before
    rw [channel] at posts
    exact postedStop_congr channel (sampled_cal ..) (by rw [sampled_load]; rfl) (State.finish_run ..) (State.finish_channel ..)
      (State.finish_load ..) posts
  constructor
  · intro overloaded
    rw [sampleTaken, stops, if_pos overloaded]
    exact posted ..
  · intro within
    rw [sampleTaken, stops, if_neg within]
    exact posted ..

end

/-! ### STEP_TIMER_EXPIRY with its timer stopped (log 3) -/

/-- Posting STOP stops the step timer (R123). -/
theorem postedStop_stepTimer {s t : State} {a : Axis} {r : Run} {o : Order} {phase : RunPhase} {pending : Option RunResult}
    {queue : List Axis} (posted : s.postedStop t a r o phase pending queue) : t.channel.stepTimer = none := by
  obtain ⟨-, channel, -⟩ := posted
  rw [channel]

/-- The expiry of a step timer that is stopped changes nothing (log 3). -/
theorem exec_stepTimerExpiry_stopped {t : State} (stopped : t.channel.stepTimer = none) : exec .stepTimerExpiry t = .next t := by
  have runs : ¬ t.channel.stepTimer.isSome = true := by rw [stopped]; simp
  rw [exec_stepTimerExpiry, execStepTimerExpiry, whenActing, if_neg runs, ite_self]

/-! ### RAMP_IGNORE_EXPIRY (R135) -/

/-- The watch of an axis that is IGNORING goes to WATCHING, and the command ends (R135). -/
theorem exec_rampIgnoreExpiry_ignoring {s : State} {a : Axis} (acts : s.acting = true) (ignoring : (s.load a).watch = .ignoring) :
    exec (.rampIgnoreExpiry a) s = .next ((begun s).ignoreExpiry a).finish := by
  rw [exec_rampIgnoreExpiry, execRampIgnoreExpiry, whenActing_of_acting acts, if_pos ignoring, event_eq]

/-! ### The park test (R147 to R149) -/

/-- The park test starts a capture: the park state is READY in RUNNING, no capture is in flight, PFW is DEASSERTED and some axis
differs from the newest slot (R147). -/
theorem parkCaptureWanted_iff (s : State) : s.parkCaptureWanted = true ↔
    s.cont.park = .ready ∧ s.cont.phase = .running ∧ s.cont.capture = none ∧ s.cont.pfw = false ∧ ∃ a, s.differsFromNewest a := by
  have differs : allAxes.any s.axisDiffers = true ↔ ∃ a, s.differsFromNewest a := by
    rw [List.any_eq_true]
    refine exists_congr fun a => ?_
    rw [State.axisDiffers_iff, and_iff_right (by cases a <;> decide)]
  simp [State.parkCaptureWanted, differs, and_assoc]

/-- A capture starts with no byte written, its target and its freeze (R148, R149). -/
@[simp] theorem startCapture_capture (s : State) (reason : CaptureReason) : (s.startCapture reason).cont.capture =
    some { target := s.cont.captureTarget.1, written := 0, buffer := s.freeze reason } := by
  rw [State.startCapture, State.cutRecipeWrite_cont, State.cutCalWrite_cont]
  rfl

/-- The arbiter starts and ends no capture, and leaves its pending marks (R143). -/
theorem serve_capture (s : State) : s.serve.cont.capture = s.cont.capture ∧ s.serve.cont.pendingMarks = s.cont.pendingMarks := by
  have entry (sl : Slot) (d : DirEntry) :
      (s.cont.setSlot sl d).capture = s.cont.capture ∧ (s.cont.setSlot sl d).pendingMarks = s.cont.pendingMarks := by
    cases sl <;> exact ⟨rfl, rfl⟩
  unfold State.serve
  split
  · exact ⟨rfl, rfl⟩
  split
  · exact ⟨rfl, rfl⟩
  split
  · unfold State.serveCapture
    dsimp only
    split
    · exact entry ..
    · exact ⟨rfl, rfl⟩
  split
  · exact ⟨rfl, rfl⟩
  · unfold State.serveRegions
    (repeat' split) <;> exact ⟨rfl, rfl⟩

/-- The capture and the pending marks at a command's end are those that the park test leaves (R147). -/
theorem finish_capture (s : State) :
    s.finish.cont.capture = s.parkTest.cont.capture ∧ s.finish.cont.pendingMarks = s.parkTest.cont.pendingMarks :=
  serve_capture _

/-- A capture takes the slot that is not the newest, with the next sequence (R149). -/
theorem captureTarget_of_newest {c : Continuity} {sl : Slot} (newest : c.newest = some sl) :
    c.captureTarget = (sl.other, (c.slot sl).sequence + 1) := by
  rw [Continuity.captureTarget, newest]

/-- With no newest slot a capture takes slot A with the sequence 1 (R149). -/
theorem captureTarget_of_none {c : Continuity} (newest : c.newest = none) : c.captureTarget = (.a, 1) := by
  rw [Continuity.captureTarget, newest]

/-- The freeze takes the record of an axis that is not RESTORING as it stands (R148). -/
theorem freezeEntry_eq {s : State} {a : Axis} (restored : (s.record a).state ≠ .restoring) : s.freezeEntry a = (s.record a).entry := by
  unfold State.freezeEntry
  split
  · next restoring _ => exact absurd restoring restored
  · rfl

/-! ### PARK_TIMER_EXPIRY (R147) -/

/-- The state on which the park test of the expiry is made: READY, with the timer stopped (R147). -/
def parkReady (s : State) : State := (begun s).parkExpiry

theorem exec_parkTimerExpiry_timing {s : State} (acts : s.acting = true) (timing : s.cont.park = .timing) :
    exec .parkTimerExpiry s = .next (parkReady s).finish := by
  rw [exec_parkTimerExpiry, execParkTimerExpiry, whenActing_of_acting acts, if_pos timing, event_eq]
  rfl

theorem parkReady_cont (s : State) : (parkReady s).cont = { s.cont with park := .ready, parkTimer := none } := rfl

@[simp] theorem parkReady_record (s : State) (a : Axis) : (parkReady s).record a = s.record a := rfl

/-- The expiry leaves what decides whether an axis differs from the newest slot (R147). -/
theorem parkReady_differsFromNewest (s : State) (a : Axis) : (parkReady s).differsFromNewest a ↔ s.differsFromNewest a := Iff.rfl

/-- At the expiry the park test starts a capture by the state before it (R147). -/
theorem parkReady_wanted_iff (s : State) : (parkReady s).parkCaptureWanted = true ↔
    s.cont.phase = .running ∧ s.cont.capture = none ∧ s.cont.pfw = false ∧ ∃ a, s.differsFromNewest a := by
  simp [parkCaptureWanted_iff, parkReady_cont, parkReady_differsFromNewest]

/-- The park test of the expiry starts a PARK capture where it wants one (R147, R148). -/
theorem parkReady_parkTest (s : State) : (parkReady s).parkTest =
    if (parkReady s).parkCaptureWanted = true then (parkReady s).startCapture .park else parkReady s := rfl

/-- Where the park test of the expiry starts a capture, that is a PARK capture with its freeze of the records as they stand, into the slot
and with the sequence of R149; pending are the axes outdated by earlier commands of the same µs (R148; log 39). -/
theorem parkReady_starts {s : State} (wanted : (parkReady s).parkCaptureWanted = true) :
    ∃ cap, (parkReady s).finish.cont.capture = some cap ∧ cap.buffer.reason = .park ∧ cap.written = 0
      ∧ cap.buffer.fingerprint = s.cal.fingerprint
      ∧ (∀ sl, s.cont.newest = some sl → cap.target = sl.other ∧ cap.buffer.sequence = (s.cont.slot sl).sequence + 1)
      ∧ (s.cont.newest = none → cap.target = .a ∧ cap.buffer.sequence = 1)
      ∧ (∀ a, (s.record a).state ≠ .restoring →
          cap.buffer.entries.get a = (s.record a).entry ∧ (parkReady s).finish.cont.pendingMarks.get a = s.outdatedNow.get a) := by
  have test : (parkReady s).parkTest = (parkReady s).startCapture .park := by rw [parkReady_parkTest, if_pos wanted]
  obtain ⟨capture, marks⟩ := finish_capture (parkReady s)
  rw [test, startCapture_capture] at capture
  rw [test, State.startCapture_pendingMarks] at marks
  refine ⟨_, capture, rfl, rfl, rfl, fun sl newest => ?_, fun newest => ?_, fun a restored => ⟨?_, ?_⟩⟩
  · have target : (parkReady s).cont.captureTarget = _ := captureTarget_of_newest newest
    exact ⟨congrArg Prod.fst target, congrArg Prod.snd target⟩
  · have target : (parkReady s).cont.captureTarget = _ := captureTarget_of_none newest
    exact ⟨congrArg Prod.fst target, congrArg Prod.snd target⟩
  · exact (PerAxis.get_of ..).trans (freezeEntry_eq (s := parkReady s) restored)
  · rw [marks, State.marksAtFreeze_get (s := parkReady s) restored]
    rfl

/-- Settles O28: each expiry by the state on which its command ends; a LOAD_CHECK sample by whether the run is MOVING in that step, and the
park timer by whether the park test starts a capture. -/
theorem loadAndParkTimersExpire : Obligations.LoadAndParkTimersExpire := by
  refine ⟨fun s a acts => ⟨fun timing full => ?classification, fun v timing latest => ?sample⟩,
    fun s acts => ⟨fun a ignoring => ?ignore, fun timing => ?park⟩⟩
  case classification =>
    obtain ⟨t, answers, cls, rest⟩ := classificationTimer_classifies acts timing full
    rw [windowSum_eq] at cls
    exact ⟨t, answers, cls, rest⟩
  case sample =>
    refine ⟨_, exec_loadSampleTimerExpiry_timing acts timing latest, ?_, sampleTaken_sampleTimer _, ?_, fun r runs => ⟨?_, ?_⟩⟩
    · rw [sampleTaken_record, classify_one]
      rfl
    · rw [sampleTaken_record]
      rfl
    · intro o checks live
      rw [← checksLoad_iff] at checks
      obtain ⟨overloaded, within⟩ := sampleTaken_postedStop (classify (s.calOf a) 1 (magnitude v)) runs checks live
      rw [sampleTaken_record]
      refine ⟨overloaded, within, exec_stepTimerExpiry_stopped ?_⟩
      by_cases k : classify (s.calOf a) 1 (magnitude v) = .overload
      · exact postedStop_stepTimer (overloaded k)
      · exact postedStop_stepTimer (within k)
    · intro other
      rw [← checksLoad_iff] at other
      exact sampleTaken_stands _ runs other
  case ignore =>
    refine ⟨_, exec_rampIgnoreExpiry_ignoring acts ignoring, ?_⟩
    simp [State.ignoreExpiry]
  case park =>
    refine ⟨_, exec_parkTimerExpiry_timing acts timing, State.finish_park _, State.finish_parkTimer _, State.finish_records _,
      State.finish_runs _, State.finish_channel _, ?_, ?_⟩
    · intro starts
      exact parkReady_starts ((parkReady_wanted_iff s).mpr starts)
    · intro stands
      rw [(finish_capture _).1, parkReady_parkTest, if_neg (mt (parkReady_wanted_iff s).mp stands), parkReady_cont]

end Sys2Proof.Proofs.HomingRecipes
end
